-- ==== Sys2Proof/Word.lean ====
section
/-! DEFINITION. The word type. FPEXC, the general-purpose registers, the program counter and an instruction pattern are 32
bits each (R5, R35, R36, R48); bit 31 is the most significant (R5, R7). -/

namespace Sys2Proof

/-- `bits(32)` of R7. Bit `i` of `w` is `w.getLsbD i`. -/
abbrev Word := BitVec 32

end Sys2Proof
end

