-- ==== Sys2Proof/Syntax.lean ====
section
/-! DEFINITION. The instructions: one constructor per row of opcode_table.json (R46, R47, R48), and the reasons a word is no
instruction of this spec. -/

namespace Sys2Proof

/-- The two instruction sets that hold an encoding of VMRS and VMSR (R48). -/
inductive ISet where
  | a32
  | t32
deriving DecidableEq, Repr

/-- `VMRS <Rt>, FPEXC` and `VMSR FPEXC, <Rt>` (`reg = 0b1000`, R45) in each instruction set. `cond` is the A32 condition field,
bits 31:28; `t` is the number of `<Rt>`, bits 15:12. -/
inductive Instr where
  | vmrsA32 (cond t : BitVec 4)
  | vmsrA32 (cond t : BitVec 4)
  | vmrsT32 (t : BitVec 4)
  | vmsrT32 (t : BitVec 4)
deriving DecidableEq, Repr

/-- Why the decoder refuses a word. Each is a refusal, and safe: the model says nothing about the word. -/
inductive DecodeError where
  /-- Not in the VMRS/VMSR class of R48 at all (R91: "the word is one of the four patterns or the model refuses it"). -/
  | notVmrsVmsr
  /-- A32 with `cond = 1111` (R48: "must not be 1111 for these encodings"). -/
  | condReserved
  /-- "VMRS/VMSR of another special register, not in scope" (R49), with the `reg` field. -/
  | otherSpecialRegister (reg : BitVec 4)
  /-- A should-be-zero bit is set (R52 b, D17). -/
  | sbzSet
  /-- `t = 15` (R50, D16). -/
  | rtFifteen
deriving DecidableEq, Repr

/-- The instruction set an instruction belongs to. -/
def Instr.iset : Instr → ISet
  | .vmrsA32 _ _ => .a32
  | .vmsrA32 _ _ => .a32
  | .vmrsT32 _ => .t32
  | .vmsrT32 _ => .t32

/-- The number of `<Rt>`. -/
def Instr.rt : Instr → BitVec 4
  | .vmrsA32 _ t => t
  | .vmsrA32 _ t => t
  | .vmrsT32 t => t
  | .vmsrT32 t => t

/-- The read form VMRS (R46); the others are the write form VMSR (R47). -/
def Instr.isRead : Instr → Bool
  | .vmrsA32 _ _ => true
  | .vmsrA32 _ _ => false
  | .vmrsT32 _ => true
  | .vmsrT32 _ => false

end Sys2Proof
end

