-- ==== Sys2Proof/WellFormed.lean ====
section
/-! DEFINITION. The instructions the decoder admits: `t` in 0 to 14 (R50) and, in A32, `cond` not `1111` (R48). -/

namespace Sys2Proof

/-- The condition field of an A32 encoding (R48). -/
def condOk (cond : BitVec 4) : Bool := cond != 15#4

/-- The `Rt` field (R50). -/
def rtOk (t : BitVec 4) : Bool := t != 15#4

/-- An instruction the decoder of R48 to R52 may give. -/
def Instr.wf : Instr → Bool
  | .vmrsA32 cond t => condOk cond && rtOk t
  | .vmsrA32 cond t => condOk cond && rtOk t
  | .vmrsT32 t => rtOk t
  | .vmsrT32 t => rtOk t

end Sys2Proof
end

