-- ==== Sys2Proof/Decode.lean ====
section
/-! DEFINITION. The decoder (R45 to R52), total on every 32-bit word, refusing by name, and the encoder. Words are numbered as
R48 and opcode_table.json number them: bit 31 first; in T32 the first halfword is bits 31:16. The bit patterns are the spec's
general knowledge (R48, entry 8). -/

namespace Sys2Proof

/-- Bits 31:28 of an A32 word: the condition field (R48). -/
def condField (w : Word) : BitVec 4 := w.extractLsb' 28 4

/-- Bits 19:16: the `reg` field (R45, R48). -/
def regField (w : Word) : BitVec 4 := w.extractLsb' 16 4

/-- Bits 15:12: the `Rt` field (R48). -/
def rtField (w : Word) : BitVec 4 := w.extractLsb' 12 4

/-- Bit 20: the direction, 1 = read into `Rt` (R48). -/
def directionBit (w : Word) : Bool := w.getLsbD 20

/-- The should-be-zero bits 7, 6:5 and 3:0 are all zero (R48). -/
def sbzClear (w : Word) : Bool := w &&& 0x000000EF#32 == 0#32

/-- Bits 27:21 are `1110 111`, bits 11:8 are `1010` and bit 4 is 1: the columns of R48's tables that both instructions of both
instruction sets share. -/
def isVmrsVmsr (w : Word) : Bool := w &&& 0x0FE00F10#32 == 0x0EE00A10#32

/-- The checks common to both instruction sets, once the word is known to be a VMRS or a VMSR: `reg` (R49), the should-be-zero
bits (R52) and `t` (R50), then the direction (R48). -/
def decodeFields (w : Word) (read write : BitVec 4 → Instr) : Except DecodeError Instr :=
  if regField w != 8#4 then .error (.otherSpecialRegister (regField w))
  else if !sbzClear w then .error .sbzSet
  else if !rtOk (rtField w) then .error .rtFifteen
  else if directionBit w then .ok (read (rtField w))
  else .ok (write (rtField w))

/-- The A32 encoding A1 (R48). -/
def decodeA32 (w : Word) : Except DecodeError Instr :=
  if !isVmrsVmsr w then .error .notVmrsVmsr
  else if !condOk (condField w) then .error .condReserved
  else decodeFields w (.vmrsA32 (condField w)) (.vmsrA32 (condField w))

/-- The T32 encoding T1 (R48): bits 31:28 are `1110`. -/
def decodeT32 (w : Word) : Except DecodeError Instr :=
  if !isVmrsVmsr w then .error .notVmrsVmsr
  else if condField w != 14#4 then .error .notVmrsVmsr
  else decodeFields w .vmrsT32 .vmsrT32

/-- The decoder (R91 a). -/
def decode (k : ISet) (w : Word) : Except DecodeError Instr :=
  match k with
  | .a32 => decodeA32 w
  | .t32 => decodeT32 w

/-- One row of R48: bits 31:28, then `1110 111`, the direction, `reg = 1000`, `Rt`, `1010`, and `0001 0000`. -/
def encodeRow (top : BitVec 4) (direction : BitVec 1) (t : BitVec 4) : Word :=
  top ++ 0b1110111#7 ++ direction ++ 0b1000#4 ++ t ++ 0b1010#4 ++ 0b00010000#8

/-- The word of an instruction (R48). -/
def encode : Instr → Word
  | .vmrsA32 cond t => encodeRow cond 1#1 t
  | .vmsrA32 cond t => encodeRow cond 0#1 t
  | .vmrsT32 t => encodeRow 0b1110#4 1#1 t
  | .vmsrT32 t => encodeRow 0b1110#4 0#1 t

/-- The instruction set in which a word of the opcode table is read when nothing else says which: T32 where the word is a T32
row's, else A32 (entry 6: an A32 word with `cond = 1110` is numerically a T32 word, R48). -/
def tableIset (w : Word) : ISet :=
  match decodeT32 w with
  | .ok _ => .t32
  | .error _ => .a32

/-- The pattern that `nbits` bits `w` of an opcode-table row stand for, every bit above `nbits` zero. -/
def tableWord (nbits w : Nat) : Word := BitVec.ofNat 32 (w % 2 ^ nbits)

/-- The instruction the decoder reads from the bits of an opcode-table row. -/
def decodeTableWord (nbits w : Nat) : Option Instr :=
  match decode (tableIset (tableWord nbits w)) (tableWord nbits w) with
  | .ok i => some i
  | .error _ => none

end Sys2Proof
end

