-- ==== Sys2Proof/Config.lean ====
section
/-! DEFINITION. The configuration record `P` (R6 of 00_scope.md): what one implementation fixes. `State` holds one as plain
data and no step changes it, so a statement over every state is a statement over every `P` (entry 1). The one free value of the
model, the oracle of draws of R33 and R91, stands here too, with no body (entry 4). -/

namespace Sys2Proof

/-- `RAZ_WI` or `RAO_WI`: the two values of `P_TFV_KIND` in the overlapping case of R19, where both bullets of the source apply. -/
inductive TfvFixed where
  | razWi
  | raoWi
deriving DecidableEq, Repr

/-- `P_TFV_KIND` (R6, R19). -/
inductive TfvKind where
  | status
  | razWi
  | raoWi
deriving DecidableEq, Repr

/-- `P_EN_EL0_TGE_RW0` (R6, R65): the Effective value of EN is 1, or the value written to EN. -/
inductive EnEl0Choice where
  | one
  | written
deriving DecidableEq, Repr

/-- `P_EN_SYNC` (R6, R43). -/
inductive EnSync where
  | immediate
  | deferred
deriving DecidableEq, Repr

/-- The configuration record `P` of R6, less the derived parameters (Machine/Flags.lean) and `P_HAVE_SIMD_FP`, which R2 fixes to
true. -/
structure Config where
  featAA32EL1 : Bool
  featAA32EL2 : Bool
  featAA32EL3 : Bool
  featAA64EL2 : Bool
  featAA64EL3 : Bool
  haveEL3 : Bool
  trapIde : Bool
  trapIxe : Bool
  trapUfe : Bool
  trapOfe : Bool
  trapDze : Bool
  trapIoe : Bool
  lenStrideRaz : Bool
  tfvOverlap : TfvFixed
  resStorage : Word
  enEl0TgeRw0 : EnEl0Choice
  flagOverwrite : Bool
  dexClearOnUnalloc : Bool
  enSync : EnSync
deriving DecidableEq, Repr

/-- The oracle of draws (R33, R91): `freeWord n` is the `n`th fresh 32-bit value, under no law. -/
opaque Config.freeWord : Nat → Word

/-- Configuration A of 95_test_vectors.md 2.0, the one `State.reset` names (DESIGN CHOICE, entry 1): no trapping, Len and Stride
RAZ, every reserved bit hardwired, and the features of the defaults of 2.3. Four parameters OPEN in R6 have no value in configuration
A and are DESIGN CHOICES of the same entry: `P_EN_SYNC` DEFERRED, the value R43 recommends; `P_EN_EL0_TGE_RW0` WRITTEN (R65);
`P_FLAG_OVERWRITE` (R74) and `P_DEX_CLEAR_ON_UNALLOC` (R75) false. -/
def Config.plain : Config where
  featAA32EL1 := true
  featAA32EL2 := false
  featAA32EL3 := false
  featAA64EL2 := false
  featAA64EL3 := false
  haveEL3 := false
  trapIde := false
  trapIxe := false
  trapUfe := false
  trapOfe := false
  trapDze := false
  trapIoe := false
  lenStrideRaz := true
  tfvOverlap := .razWi
  resStorage := 0x00000000#32
  enEl0TgeRw0 := .written
  flagOverwrite := false
  dexClearOnUnalloc := false
  enSync := .deferred

end Sys2Proof
end

