-- ==== Sys2Proof/Machine/State.lean ====
section
/-! DEFINITION. The state of the machine as plain data: the storage `S` behind FPEXC (R10), the general-purpose registers (R35),
the program counter (R36), the configuration `P` (R6), the environment `E` (R34), what a raised outcome leaves (R79), the inputs
of the other agents (R91), and the state after reset. -/

namespace Sys2Proof.Machine

/-- The Exception levels (R9, R78). -/
inductive EL where
  | el0
  | el1
  | el2
  | el3
deriving DecidableEq, Repr

/-- What R34 calls "named only", and the registers it names without contents or width. A value is a number: the source gives no
width (N23, entry 21). No rule reads one. -/
structure NamedOnly where
  nsacrNsasedis : Nat
  cpacrAsedis : Nat
  cpacrEl1Fpen : Nat
  hcptrTase : Nat
  fpsid : Nat
  mvfr0 : Nat
  mvfr1 : Nat
  mvfr2 : Nat
  q : Vector Nat 16
deriving DecidableEq, Repr

/-- The environment record `E` (R34): inputs that belong to the rest of the processor. No instruction writes one; an input of the
environment may replace them between steps (R91 c, D20). -/
structure Env where
  /-- `PSTATE.EL`. -/
  el : EL
  /-- `ELUsingAArch32(EL2)`. -/
  el2UsingAArch32 : Bool
  /-- `ELUsingAArch32(EL3)`. -/
  el3UsingAArch32 : Bool
  /-- "EL1 is using AArch64" (R64). An input of its own (N11). -/
  el1UsingAArch64 : Bool
  /-- "EL2 is using AArch64" (R63, R64, R65). -/
  el2UsingAArch64 : Bool
  /-- "EL3 is using AArch64" (R63, entry 17). -/
  el3UsingAArch64 : Bool
  /-- "executing in Non-secure state" (R63, entry 17). -/
  nonSecure : Bool
  /-- `EL2Enabled()`. -/
  el2Enabled : Bool
  /-- `ELIsInHost(EL2)`. -/
  el2IsInHost : Bool
  /-- `EL3SDDUndefPriority()`. -/
  el3SDDUndefPriority : Bool
  /-- `EL3SDDUndef()`. -/
  el3SDDUndef : Bool
  /-- `CPTR_EL3.TFP`. -/
  cptrEl3Tfp : BitVec 1
  /-- `CPTR_EL2.TFP`. -/
  cptrEl2Tfp : BitVec 1
  /-- `CPTR_EL2.FPEN`. -/
  cptrEl2Fpen : BitVec 2
  /-- `SCR.NS`. -/
  scrNs : BitVec 1
  /-- `NSACR.cp10`. -/
  nsacrCp10 : BitVec 1
  /-- `CPACR.cp10`. -/
  cpacrCp10 : BitVec 2
  /-- `HCPTR.TCP10`. -/
  hcptrTcp10 : BitVec 1
  /-- `HCR_EL2.TGE`. -/
  hcrEl2Tge : BitVec 1
  /-- The effective `HCR_EL2.RW`. -/
  hcrEl2Rw : BitVec 1
  /-- `FPSCR.Stride` is nonzero (before `P_LENSTRIDE_RAZ` is taken into account). -/
  fpscrStrideNonzero : Bool
  /-- `FPSCR.Len` is nonzero (before `P_LENSTRIDE_RAZ` is taken into account). -/
  fpscrLenNonzero : Bool
  fpscrIde : BitVec 1
  fpscrIxe : BitVec 1
  fpscrUfe : BitVec 1
  fpscrOfe : BitVec 1
  fpscrDze : BitVec 1
  fpscrIoe : BitVec 1
  fpscrFz : BitVec 1
  fpscrFz16 : BitVec 1
  /-- `ExecutingCP10or11Instr()`, for the instruction that causes an event (R74, R75). -/
  executingCp10or11 : Bool
  /-- `ConditionPassed` (R51), for an instruction whose step supplies none of its own (entry 11). -/
  conditionPassed : Bool
  /-- A T32 instruction stands in an IT block (R51, entry 7). -/
  inITBlock : Bool
  /-- The instruction set being executed (R48, entry 6). -/
  iset : ISet
  /-- Named without width or contents (R34). -/
  named : NamedOnly
deriving DecidableEq, Repr

/-- A set of trapped floating-point exceptions, a subset of {ID, IX, UF, OF, DZ, IO} (R74). -/
structure ExcSet where
  id : Bool
  ix : Bool
  uf : Bool
  of : Bool
  dz : Bool
  io : Bool
deriving DecidableEq, Repr

/-- The seventeen instructions of TFV's value 0 (R18, R74). -/
inductive ShortVectorInstr where
  | vabs
  | vadd
  | vdiv
  | vfma
  | vfms
  | vfnma
  | vfnms
  | vmla
  | vmls
  | vmov
  | vmul
  | vneg
  | vnmla
  | vnmls
  | vnmul
  | vsqrt
  | vsub
deriving DecidableEq, Repr

/-- The cause of an `FPSyncException` (R74). `halfData`: a half-precision data-processing instruction. `halfFlushed`: the denormal
input is a half-precision value that FPSCR.FZ16 = 1 flushes to zero. -/
inductive FPCause where
  | trapped (exceptions : ExcSet) (halfData halfFlushed : Bool)
  | shortVector (by_ : ShortVectorInstr)
deriving DecidableEq, Repr

/-- Where an Undefined outcome comes from, "for the model's own diagnostics" (R70): a line of AccessCheck (R57) or the EN gate
(R60). -/
inductive UndefCause where
  | lineA
  | lineB
  | line11
  | line12
  | line16a
  | line21
  | line23a
  | line31
  | enGate
deriving DecidableEq, Repr

/-- The result of AccessCheck (R57). -/
inductive AccessResult where
  | ok
  | undef (line : UndefCause)
  | trapA64 (target : EL) (ec : Nat)
  | hypTrap (ec : Nat)
deriving DecidableEq, Repr

/-- An outcome that is raised (R70 to R72), or the synchronous exception of a recorded event that is handed to the enclosing
model (R74, R75, R91 b). -/
inductive Raised where
  /-- `Undefined` (R70). -/
  | undefined (cause : UndefCause)
  /-- `SystemAccessTrapA64(target, ec)` (R71). -/
  | systemAccessTrapA64 (target : EL) (ec : Nat)
  /-- `HypTrap(ec)` (R72). -/
  | hypTrap (ec : Nat)
  /-- The synchronous exception of `FPSyncException(cause)` (R74); its type is not in the source. -/
  | fpSyncException (cause : FPCause)
  /-- The synchronous exception of `UnallocatedCP10or11Exception` (R75). -/
  | unallocatedCp10or11
deriving DecidableEq, Repr

/-- What an instruction of the enclosing model may access, as far as R60 and R62 name it: the FPSCR, Q0-Q15 and their views, and
the registers that EN = 0 does not disable. -/
inductive FPReg where
  | fpscr
  | q (n : Fin 16)
  | d (n : Fin 32)
  | s (n : Fin 32)
  | fpexc
  | fpsid
  | mvfr0
  | mvfr1
  | mvfr2
deriving DecidableEq, Repr

/-- One access: a VMSR write, a VMRS read, or an access by any other instruction. -/
inductive FPAccess where
  | vmsr (r : FPReg)
  | vmrs (r : FPReg)
  | other (r : FPReg)
deriving DecidableEq, Repr

/-- One step of one agent (R91): an instruction of the processing element (a), or what another agent does (b to d). -/
inductive Input where
  /-- The processing element takes its step, for which the environment supplies `ConditionPassed` (R51, R91 a). -/
  | instruction (conditionPassed : Bool)
  /-- The environment changes `E` (R91 c, D20). -/
  | environment (env : Env)
  /-- The enclosing model continues "with its own exception entry" (R79) or instructions of its own; it supplies `x`, `pc` and
  `E` (R34 to R36). -/
  | resume (x : Vector Word 15) (pc : Word) (env : Env)
  /-- A write through FPEXC32_EL2 (R3, R38, D19): `S` becomes any value. -/
  | aarch64Write (v : Word)
  /-- The synchronisation event of `P_EN_SYNC = DEFERRED` (R43). -/
  | synchronise
  /-- `FPSyncException(cause)` (R74). -/
  | fpException (cause : FPCause)
  /-- `UnallocatedCP10or11Exception` (R75). -/
  | unallocated
  /-- An instruction of the enclosing model that would make these accesses consults the gate (R60, R67). -/
  | gatedAccess (accesses : List FPAccess)
  /-- `WarmReset` (R85); `x`, `pc` and `E` after a reset are free inputs (R86, D26). -/
  | warmReset (x : Vector Word 15) (pc : Word) (env : Env)
deriving DecidableEq, Repr

/-- Why the machine stops with a fault. -/
inductive Fault where
  /-- Raised by `step` (Step.lean) and by the inputs that are instructions of the processing element: the outcome of an earlier
  step ended the run (R79, D18) and the enclosing model has not taken over. Safe: hardware goes on where the model stops. -/
  | runEnded (outcome : Raised)
deriving DecidableEq, Repr

/-- Why the model gives a step no meaning. Every one is safe: no claim about what follows can be proved. -/
inductive Refusal where
  /-- An instruction rejected by name in `exec`: none is left. -/
  | notModelled (mnemonic : String)
  /-- Raised by `step`: the program text holds no instruction at `pc` (R40: the model is given the instruction). -/
  | noInstruction
  /-- Raised by `step`: the decoder refuses the word (R49, R50, R52, R91). -/
  | undecodable (why : DecodeError)
  /-- Raised by a meaning given `t = 15`, which no word decodes to (R50). -/
  | rtFifteen
  /-- Raised by an A32 meaning given `cond = 1111`, which no word decodes to (R48). -/
  | condReserved
  /-- Raised by an input for an event that cannot occur under `P` and `E` (R74, R75). -/
  | impossibleInput
deriving DecidableEq, Repr

/-- The state. -/
structure State where
  /-- The configuration record `P` (R6); no step changes it. -/
  cfg : Config
  /-- The environment record `E` (R34). -/
  env : Env
  /-- `S`, the storage behind FPEXC (R10). -/
  fpexc : Word
  /-- `x[0..14]` (R35). -/
  x : Vector Word 15
  /-- The program counter (R36). -/
  pc : Word
  /-- Under DEFERRED, the EN bit from before an unsynchronised change (R43). -/
  enOld : Option Bool
  /-- The raised outcome that ended the run, until the enclosing model takes over (R79). -/
  outcome : Option Raised
  /-- Which agents act next, oldest first, instructions among them (R91); once it is empty, instructions run (entry 11). -/
  inputs : List Input
  /-- The program text: instruction patterns by address, addresses strictly rising (R91, entry 5). -/
  program : List (Nat × Word)
  /-- How many draws have been made (R33); the model's own counter (entry 4). -/
  draws : Nat
deriving DecidableEq, Repr

/-- Nothing of what R34 only names is set (entry 2). -/
def NamedOnly.zero : NamedOnly where
  nsacrNsasedis := 0
  cpacrAsedis := 0
  cpacrEl1Fpen := 0
  hcptrTase := 0
  fpsid := 0
  mvfr0 := 0
  mvfr1 := 0
  mvfr2 := 0
  q := Vector.replicate 16 0

/-- The environment of vector V3 (95_test_vectors.md 2.3): EL1, no EL2, no EL3, `CPACR.cp10 = '11'`. DESIGN CHOICE (entry 2):
R86 gives no value. -/
def Env.plain : Env where
  el := .el1
  el2UsingAArch32 := false
  el3UsingAArch32 := false
  el1UsingAArch64 := false
  el2UsingAArch64 := false
  el3UsingAArch64 := false
  nonSecure := false
  el2Enabled := false
  el2IsInHost := false
  el3SDDUndefPriority := false
  el3SDDUndef := false
  cptrEl3Tfp := 0#1
  cptrEl2Tfp := 0#1
  cptrEl2Fpen := 0b11#2
  scrNs := 0#1
  nsacrCp10 := 1#1
  cpacrCp10 := 0b11#2
  hcptrTcp10 := 0#1
  hcrEl2Tge := 0#1
  hcrEl2Rw := 0#1
  fpscrStrideNonzero := false
  fpscrLenNonzero := false
  fpscrIde := 0#1
  fpscrIxe := 0#1
  fpscrUfe := 0#1
  fpscrOfe := 0#1
  fpscrDze := 0#1
  fpscrIoe := 0#1
  fpscrFz := 0#1
  fpscrFz16 := 0#1
  executingCp10or11 := false
  conditionPassed := true
  inITBlock := false
  iset := .a32
  named := NamedOnly.zero

/-- The machine right after reset. The spec gives one value: EN = 0 (R12, R85). The other bits of `S` are UNKNOWN there and 0 here
(DESIGN CHOICE, entry 3; the WarmReset input draws them); `x`, `pc` and `E` are not in the source (R86) and are the values of
entries 2 and 3; `P` is configuration A (entry 1). Nothing is placed in the program text (entry 5). -/
def State.reset : State where
  cfg := Config.plain
  env := Env.plain
  fpexc := 0x00000000#32
  x := Vector.replicate 15 0x00000000#32
  pc := 0x00000000#32
  enOld := none
  outcome := none
  inputs := []
  program := []
  draws := 0

end Sys2Proof.Machine
end

