-- ==== Sys2Proof/Machine/Flags.lean ====
section
/-! DEFINITION. The bits of FPEXC: field masks (R10), derived parameters (R6, R15, R19), the read view `ReadFPEXC` (R29, R30), the
write merge `WriteFPEXC` (R31), what hardware records (R74, R75), the Effective value of EN (R67) and how a handler decodes the
cause (R77). These are pure functions of `S`, `P` and `E`. -/

namespace Sys2Proof.Machine

/-! Masks (R10). -/

def mEX : Word := 0x80000000#32
def mEN : Word := 0x40000000#32
def mDEX : Word := 0x20000000#32
def mFP2V : Word := 0x10000000#32
def mVV : Word := 0x08000000#32
def mTFV : Word := 0x04000000#32
def mRes25to11 : Word := 0x03FFF800#32
def mVECITR : Word := 0x00000700#32
def mIDF : Word := 0x00000080#32
def mRes6to5 : Word := 0x00000060#32
def mIXF : Word := 0x00000010#32
def mUFF : Word := 0x00000008#32
def mOFF : Word := 0x00000004#32
def mDZF : Word := 0x00000002#32
def mIOF : Word := 0x00000001#32

/-- `M_RESERVED = 0x1BFFFF60`: the fixed reserved bits (R10). -/
def mReserved : Word := mFP2V ||| mVV ||| mRes25to11 ||| mVECITR ||| mRes6to5

/-- `M_FLAGS = 0x0000009F`: the six flag bits (R10). -/
def mFlags : Word := mIDF ||| mIXF ||| mUFF ||| mOFF ||| mDZF ||| mIOF

/-- The mask `m` where `b` holds, else no bit: `if b then m else 0` of R31. -/
def maskIf (b : Bool) (m : Word) : Word := if b then m else 0x00000000#32

/-! Derived parameters. -/

/-- `P_TRAP_ANY` (R6, D1). -/
def trapAny (c : Config) : Bool :=
  c.trapIde || c.trapIxe || c.trapUfe || c.trapOfe || c.trapDze || c.trapIoe

/-- `P_DEX_RES0` (R6, R15). -/
def dexRes0 (c : Config) : Bool := !trapAny c && c.lenStrideRaz

/-- `P_TFV_KIND` (R19), OPEN in the last row of its table. -/
def tfvKind (c : Config) : TfvKind :=
  match trapAny c, c.lenStrideRaz with
  | true, false => .status
  | true, true => .raoWi
  | false, false => .razWi
  | false, true =>
    match c.tfvOverlap with
    | .razWi => .razWi
    | .raoWi => .raoWi

/-- The constraint of R6 on `P_RES_STORAGE`: a subset of `0x3BFFFF60`, with bit 29 only when `P_DEX_RES0`. No definition below
looks at a bit outside that set (entry 20). -/
def configWf (c : Config) : Bool :=
  c.resStorage &&& ~~~(mReserved ||| maskIf (dexRes0 c) mDEX) == 0x00000000#32

/-! The read view (R29, R30). -/

/-- `res0(i)` of R30. -/
def res0 (c : Config) (S : Word) (i : Nat) : Bool := if c.resStorage.getLsbD i then S.getLsbD i else false

/-- `res1(i)` of R30. -/
def res1 (c : Config) (S : Word) (i : Nat) : Bool := if c.resStorage.getLsbD i then S.getLsbD i else true

/-- Bit 29 of a read (R13, R15, R30). -/
def readDex (c : Config) (S : Word) : Bool := if dexRes0 c then res0 c S 29 else S.getLsbD 29

/-- Bit 26 of a read (R18, R19, R30). -/
def readTfv (c : Config) (S u : Word) : Bool :=
  match tfvKind c with
  | .razWi => false
  | .raoWi => true
  | .status => if readDex c S then S.getLsbD 26 else u.getLsbD 26

/-- `flag(i, impl)` of R30: bits 7, 4, 3, 2, 1, 0 of a read (R22, R24 to R29). -/
def readFlag (c : Config) (S u : Word) (i : Nat) (impl : Bool) : Bool :=
  if !impl then false
  else if readDex c S && readTfv c S u then S.getLsbD i
  else u.getLsbD i

/-- Bit `i` of a read (R30). -/
def readBit (c : Config) (S u : Word) (i : Nat) : Bool :=
  if i = 31 then false
  else if i = 30 then S.getLsbD 30
  else if i = 29 then readDex c S
  else if i = 28 then res0 c S 28
  else if i = 27 then res0 c S 27
  else if i = 26 then readTfv c S u
  else if 11 ≤ i then res0 c S i
  else if 8 ≤ i then res1 c S i
  else if i = 7 then readFlag c S u 7 c.trapIde
  else if i = 6 then res0 c S 6
  else if i = 5 then res0 c S 5
  else if i = 4 then readFlag c S u 4 c.trapIxe
  else if i = 3 then readFlag c S u 3 c.trapUfe
  else if i = 2 then readFlag c S u 2 c.trapOfe
  else if i = 1 then readFlag c S u 1 c.trapDze
  else readFlag c S u 0 c.trapIoe

/-- `ReadFPEXC(S, P, u)` (R30). -/
def readFPEXC (c : Config) (S u : Word) : Word := BitVec.ofFnLE fun i : Fin 32 => readBit c S u i.val

/-! The write merge (R31). -/

/-- `WMASK(P)` (R31). -/
def wMask (c : Config) : Word :=
  mEN
    ||| (if dexRes0 c then c.resStorage &&& mDEX else mDEX)
    ||| (c.resStorage &&& mReserved)
    ||| maskIf c.trapIde mIDF
    ||| maskIf c.trapIxe mIXF
    ||| maskIf c.trapUfe mUFF
    ||| maskIf c.trapOfe mOFF
    ||| maskIf c.trapDze mDZF
    ||| maskIf c.trapIoe mIOF

/-- `WriteFPEXC(S, v, P)` (R31). -/
def writeFPEXC (c : Config) (S v : Word) : Word := (S &&& ~~~(wMask c)) ||| (v &&& wMask c)

/-! What hardware records (R74, R75). -/

/-- The flag bits of the exceptions in `X`. -/
def excMask (X : ExcSet) : Word :=
  maskIf X.id mIDF ||| maskIf X.ix mIXF ||| maskIf X.uf mUFF ||| maskIf X.of mOFF ||| maskIf X.dz mDZF
    ||| maskIf X.io mIOF

/-- Some exception is in `X`. -/
def excNonempty (X : ExcSet) : Bool := X.id || X.ix || X.uf || X.of || X.dz || X.io

/-- `on FPSyncException(Trapped(X))` (R74): DEX and TFV become 1, the flags in `X` become 1, and the other flags become 0 when
`P_FLAG_OVERWRITE` and are unchanged otherwise. -/
def recordTrapped (c : Config) (X : ExcSet) (S : Word) : Word :=
  (if c.flagOverwrite then S &&& ~~~mFlags else S) ||| mDEX ||| mTFV ||| excMask X

/-- `on FPSyncException(ShortVector)` (R74): DEX becomes 1 and TFV 0. -/
def recordShortVector (S : Word) : Word := (S ||| mDEX) &&& ~~~mTFV

/-- The record of an `FPSyncException` (R74). -/
def recordFP (c : Config) (cause : FPCause) (S : Word) : Word :=
  match cause with
  | .trapped X _ _ => recordTrapped c X S
  | .shortVector _ => recordShortVector S

/-- `on UnallocatedCP10or11Exception` (R75), as written whether DEX is RES0 or not (entry 13). -/
def recordUnallocated (c : Config) (S : Word) : Word := if c.dexClearOnUnalloc then S &&& ~~~mDEX else S

/-- An exception in `X` can be trapped only if its `P_TRAP_...` parameter is true and its FPSCR enable is 1 (R74). -/
def trappable (inX impl : Bool) (enable : BitVec 1) : Bool := !inX || (impl && enable == 1#1)

/-- Input Denormal occurs "only when FPSCR.FZ is 1", and not for a half-precision value flushed because FPSCR.FZ16 is 1 (R22,
R74). -/
def idCanOccur (e : Env) (halfFlushed : Bool) : Bool := e.fpscrFz == 1#1 && !(halfFlushed && e.fpscrFz16 == 1#1)

/-- Underflow: "On half-precision data-processing instructions only when FPSCR.FZ16 is 0. Otherwise only when FPSCR.FZ is 0."
(R25, R74). -/
def ufCanOccur (e : Env) (halfData : Bool) : Bool := if halfData then e.fpscrFz16 == 0#1 else e.fpscrFz == 0#1

/-- `cause` can arise under `P` and `E` (R74, entry 12). DESIGN CHOICE (entry 28): the Effective value of EN is not asked, since R74
and D25 leave the event to the floating-point unit and name no condition on EN. -/
def fpCausePossible (c : Config) (e : Env) (cause : FPCause) : Bool :=
  e.executingCp10or11 &&
  match cause with
  | .trapped X halfData halfFlushed =>
    excNonempty X
      && trappable X.id c.trapIde e.fpscrIde && trappable X.ix c.trapIxe e.fpscrIxe
      && trappable X.uf c.trapUfe e.fpscrUfe && trappable X.of c.trapOfe e.fpscrOfe
      && trappable X.dz c.trapDze e.fpscrDze && trappable X.io c.trapIoe e.fpscrIoe
      && (!X.id || idCanOccur e halfFlushed) && (!X.uf || ufCanOccur e halfData)
  | .shortVector _ => !c.lenStrideRaz && (e.fpscrStrideNonzero || e.fpscrLenNonzero)

/-! The Effective value of EN and its gate (R60 to R67). -/

/-- `EffectiveEN(S, P, E)` (R64 to R67), where `en` is the bit of EN that is seen (`S[30]`, or the older bit under DEFERRED). -/
def effectiveEN (c : Config) (e : Env) (en : Bool) : Bool :=
  if e.el = .el0 then
    if e.el1UsingAArch64 then true
    else if e.el2UsingAArch64 && e.el2Enabled && e.hcrEl2Tge == 1#1 then
      if e.hcrEl2Rw == 1#1 then true
      else match c.enEl0TgeRw0 with
        | .one => true
        | .written => en
    else en
  else en

/-- The FPSCR and the registers Q0-Q15 in all their views (R60). -/
def isGatedReg : FPReg → Bool
  | .fpscr => true
  | .q _ => true
  | .d _ => true
  | .s _ => true
  | .fpexc => false
  | .fpsid => false
  | .mvfr0 => false
  | .mvfr1 => false
  | .mvfr2 => false

/-- The accesses EN = 0 does not disable (R62). -/
def isExemptAccess : FPAccess → Bool
  | .vmsr .fpexc => true
  | .vmsr .fpsid => true
  | .vmrs .fpexc => true
  | .vmrs .fpsid => true
  | .vmrs .mvfr0 => true
  | .vmrs .mvfr1 => true
  | .vmrs .mvfr2 => true
  | _ => false

/-- The register an access is to. -/
def accessReg : FPAccess → FPReg
  | .vmsr r => r
  | .vmrs r => r
  | .other r => r

/-- EN = 0 disables an instruction that makes these accesses (R60, R62, R67). -/
def gatedBy (accesses : List FPAccess) : Bool := accesses.any fun a => isGatedReg (accessReg a) && !isExemptAccess a

/-- The controls of R63. -/
inductive Control where
  | cpacrCp10
  | cpacrEl1Fpen
  | fpexcEn
  | hcptrTcp10
  | cptrEl2Tfp
  | nsacrCp10
  | cptrEl3Tfp
  | cpacrAsedis
  | hcptrTase
  | nsacrNsasedis
deriving DecidableEq, Repr

/-- R63: the controls by which an Advanced SIMD (`advSimd`) or floating-point instruction "can be disabled or trapped". The order
is the source's list and no priority (N23). At EL0 both CPACR.cp10 and CPACR_EL1.FPEN are kept (entry 17). -/
def controlsOf (e : Env) (advSimd : Bool) : List Control :=
  [.cpacrCp10] ++ (if e.el = .el0 then [.cpacrEl1Fpen] else []) ++ [.fpexcEn]
    ++ (if e.nonSecure then
          [if e.el2UsingAArch64 then .cptrEl2Tfp else .hcptrTcp10, if e.el3UsingAArch64 then .cptrEl3Tfp else .nsacrCp10]
        else [])
    ++ (if advSimd then .cpacrAsedis :: (if e.nonSecure then [.hcptrTase, .nsacrNsasedis] else []) else [])

/-! What a handler reads (R77) and owes (R76). -/

/-- The cause a read `r` of FPEXC shows (R77). -/
inductive ReadCause where
  | unallocated
  | shortVector
  | trapped (exceptions : ExcSet)
deriving DecidableEq, Repr

/-- The six flags of a read as a set of exceptions (R77, third row). -/
def flagsOf (r : Word) : ExcSet where
  id := r.getLsbD 7
  ix := r.getLsbD 4
  uf := r.getLsbD 3
  of := r.getLsbD 2
  dz := r.getLsbD 1
  io := r.getLsbD 0

/-- R77: the cause that one read of FPEXC shows under `P`. Where DEX is RES0 "only the first row can" occur and the bit "carries no
information", whatever a storage-backed one reads. -/
def causeOfRead (c : Config) (r : Word) : ReadCause :=
  if dexRes0 c || !r.getLsbD 29 then .unallocated
  else if !r.getLsbD 26 then .shortVector
  else .trapped (flagsOf r)

end Sys2Proof.Machine
end

