-- ==== Sys2Proof/Machine/Operands.lean ====
section
/-! DEFINITION. The operands of VMRS and VMSR: the general-purpose register `x[t]` (R35, R50) and the condition (R51). -/

namespace Sys2Proof.Machine

/-- Read of `x[t]` (R7, R35); there is no `x[15]` (R50). -/
def readX (t : BitVec 4) (s : State) : Option Word := s.x[t.toNat]?

/-- `x[t] <- v` (R7, R35). -/
def writeX (t : BitVec 4) (v : Word) (s : State) : State := { s with x := s.x.setIfInBounds t.toNat v }

/-- `ConditionPassed` of an A32 instruction: true for `cond = 1110`, else the environment's (R51). -/
def conditionA32 (cond : BitVec 4) (e : Env) : Bool := cond == 14#4 || e.conditionPassed

/-- `ConditionPassed` of a T32 instruction: true outside an IT block, else the environment's (R51, entry 7). -/
def conditionT32 (e : Env) : Bool := !e.inITBlock || e.conditionPassed

end Sys2Proof.Machine
end

