-- ==== Sys2Proof/Machine/Ops.lean ====
section
/-! DEFINITION. The shared operations: the program text, the program counter, draws, AccessCheck (R57), raising an outcome and
going on from it (R70 to R72, R79), the two transfers (R55, R56), and EN under P_EN_SYNC (R43). -/

namespace Sys2Proof.Machine

/-! The program text (R91, entry 5): a list of (address, instruction pattern), addresses strictly rising. -/

/-- The instruction pattern at an address; none where the program text holds none. -/
def progRead : List (Nat × Word) → Nat → Option Word
  | [], _ => none
  | (b, w) :: rest, a => if a = b then some w else progRead rest a

/-- Place an instruction pattern. -/
def progWrite : List (Nat × Word) → Nat → Word → List (Nat × Word)
  | [], a, v => [(a, v)]
  | (b, w) :: rest, a, v =>
    if a < b then (a, v) :: (b, w) :: rest
    else if a = b then (a, v) :: rest
    else (b, w) :: progWrite rest a v

/-- The canonical form: addresses strictly rising. -/
def progWf : List (Nat × Word) → Bool
  | [] => true
  | [_] => true
  | (a, _) :: (b, w) :: rest => decide (a < b) && progWf ((b, w) :: rest)

/-! The program counter and draws. -/

/-- `pc <- pc + 4` modulo 2^32 (R36, D14). -/
def advancePc (s : State) : State := { s with pc := s.pc + 4#32 }

/-- The next fresh 32-bit value (R33). -/
def nextDraw (s : State) : Word := Config.freeWord s.draws

/-- A draw has been used. -/
def drawn (s : State) : State := { s with draws := s.draws + 1 }

/-! AccessCheck (R57). -/

/-- The NSACR term of lines 1.2, 1.5 and 2.2 (R57; `NSTERM` of R59). -/
def nsTerm (c : Config) (e : Env) : Bool := c.featAA32EL3 && e.el3UsingAArch32 && e.scrNs == 1#1 && e.nsacrCp10 == 0#1

/-- The EL3 term of lines 1.6 and 2.3 (R57). -/
def el3Trap (c : Config) (e : Env) : Bool :=
  c.haveEL3 && c.featAA64EL3 && !e.el3UsingAArch32 && e.cptrEl3Tfp == 1#1

/-- The condition of lines 1.1 and 2.1 (R57). -/
def el3UndefFirst (c : Config) (e : Env) : Bool :=
  c.haveEL3 && e.el3SDDUndefPriority && c.featAA64EL3 && !e.el3UsingAArch32 && e.cptrEl3Tfp == 1#1

/-- Lines 1.1 to 1.7 (R57). `CPTR_EL2.FPEN IN {'x0'}` holds when bit 0 of FPEN is 0 (R7). -/
def accessCheckEL1 (c : Config) (e : Env) : AccessResult :=
  if el3UndefFirst c e then .undef .line11
  else if nsTerm c e || e.cpacrCp10 == 0b00#2 then .undef .line12
  else if e.el2Enabled && c.featAA64EL2 && !e.el2UsingAArch32 && !e.el2IsInHost && e.cptrEl2Tfp == 1#1 then
    .trapA64 .el2 0x07
  else if e.el2IsInHost && c.featAA64EL2 && !e.el2UsingAArch32 && !e.cptrEl2Fpen.getLsbD 0 then .trapA64 .el2 0x07
  else if e.el2Enabled && c.featAA32EL2 && e.el2UsingAArch32 && (nsTerm c e || e.hcptrTcp10 == 1#1) then .hypTrap 0x08
  else if el3Trap c e then
    if e.el3SDDUndef then .undef .line16a else .trapA64 .el3 0x07
  else .ok

/-- Lines 2.1 to 2.4 (R57). -/
def accessCheckEL2 (c : Config) (e : Env) : AccessResult :=
  if el3UndefFirst c e then .undef .line21
  else if e.el2Enabled && (nsTerm c e || e.hcptrTcp10 == 1#1) then .hypTrap 0x00
  else if el3Trap c e then
    if e.el3SDDUndef then .undef .line23a else .trapA64 .el3 0x07
  else .ok

/-- Lines 3.1 and 3.2 (R57). -/
def accessCheckEL3 (e : Env) : AccessResult := if e.cpacrCp10 == 0b00#2 then .undef .line31 else .ok

/-- `AccessCheck(P, E)` (R57). FPEXC.EN appears nowhere in it (R58). -/
def accessCheck (c : Config) (e : Env) : AccessResult :=
  if !c.featAA32EL1 then .undef .lineA
  else match e.el with
    | .el0 => .undef .lineB
    | .el1 => accessCheckEL1 c e
    | .el2 => accessCheckEL2 c e
    | .el3 => accessCheckEL3 e

/-! Raising an outcome, and going on from one. -/

/-- `raise <outcome>` (R7, R79): `S`, `x` and the `pc` of the instruction are unchanged, and the outcome is kept for the enclosing
model. No vector, saved register or syndrome is in the source (N20, entry 10). -/
def raise (o : Raised) (s : State) : State := { s with outcome := some o }

/-- The enclosing model "continues from there with its own exception entry" (R79): it supplies `x`, `pc` and `E`. There is no
return instruction (R80). -/
def resumeAt (x : Vector Word 15) (pc : Word) (e : Env) (s : State) : State :=
  { s with x := x, pc := pc, env := e, outcome := none }

/-- EN has gone from `old` to the bit now in `S`: under DEFERRED a gated access may still see `old` (R43). -/
def noteEnChange (old : Bool) (s : State) : State :=
  if s.cfg.enSync = .deferred ∧ old ≠ s.fpexc.getLsbD 30 then { s with enOld := some old } else s

/-- `S <- v`, with EN's old bit kept where R43 asks for it. -/
def setFPEXC (v : Word) (s : State) : State := noteEnChange (s.fpexc.getLsbD 30) { s with fpexc := v }

/-- The bit of EN a gated access sees: `S[30]`; under DEFERRED after an unsynchronised change, "either the old or the new bit"
(R43), by a draw. -/
def enSeen (s : State) : Bool :=
  match s.cfg.enSync, s.enOld with
  | .deferred, some old => if (nextDraw s).getLsbD 0 then old else s.fpexc.getLsbD 30
  | _, _ => s.fpexc.getLsbD 30

/-! The two transfers, after the permission check (R55, R56). -/

/-- The transfer, if AccessCheck allows it, else the outcome it names (R55 to R57). -/
def checked (transfer : State → State) (s : State) : State :=
  match accessCheck s.cfg s.env with
  | .ok => transfer s
  | .undef line => raise (.undefined line) s
  | .trapA64 target ec => raise (.systemAccessTrapA64 target ec) s
  | .hypTrap ec => raise (.hypTrap ec) s

/-- `x[t] <- ReadFPEXC(S, P, draw(32)); pc <- pc + 4` (R55). -/
def readTransfer (t : BitVec 4) (s : State) : State :=
  advancePc (drawn (writeX t (readFPEXC s.cfg s.fpexc (nextDraw s)) s))

/-- `S <- WriteFPEXC(S, x[t], P); pc <- pc + 4` (R56), `v` being `x[t]`. -/
def writeTransfer (v : Word) (s : State) : State := advancePc (setFPEXC (writeFPEXC s.cfg s.fpexc v) s)

/-- VMRS once its condition is known (R55): condition first, then permission, then the transfer. -/
def vmrsStep (passed : Bool) (t : BitVec 4) (s : State) : Host.Outcome State Fault Refusal :=
  match readX t s with
  | none => .refused .rtFifteen
  | some _ => .next (if passed then checked (readTransfer t) s else advancePc s)

/-- VMSR once its condition is known (R56). -/
def vmsrStep (passed : Bool) (t : BitVec 4) (s : State) : Host.Outcome State Fault Refusal :=
  match readX t s with
  | none => .refused .rtFifteen
  | some v => .next (if passed then checked (writeTransfer v) s else advancePc s)

/-- The A32 encodings do not exist for `cond = 1111` (R48). -/
def withCondA32 (cond : BitVec 4) (r : Host.Outcome State Fault Refusal) : Host.Outcome State Fault Refusal :=
  if condOk cond then r else .refused .condReserved

/-- The instruction pattern the program text gives at `pc`, decoded in the instruction set being executed (R91 a). -/
def fetch (s : State) : Except Refusal Instr :=
  match progRead s.program s.pc.toNat with
  | none => .error .noInstruction
  | some w =>
    match decode s.env.iset w with
    | .error e => .error (.undecodable e)
    | .ok i => .ok i

/-- `s` with the pattern `w` placed where the next step fetches, and nothing before that step. -/
def placeWord (w : Word) (s : State) : State :=
  { s with
    program := progWrite s.program s.pc.toNat w
    env := { s.env with iset := tableIset w }
    outcome := none
    inputs := [] }

end Sys2Proof.Machine
end

