-- ==== Sys2Proof/Machine/FpexcAccess.lean ====
section
/-! DEFINITION. The meanings of the four instructions (R55, R56), one definition each. -/

namespace Sys2Proof.Machine

/-- `VMRS<c> <Rt>, FPEXC`, A32 (R55). -/
def execVmrsA32 (cond t : BitVec 4) (s : State) : Host.Outcome State Fault Refusal :=
  withCondA32 cond (vmrsStep (conditionA32 cond s.env) t s)

/-- `VMSR<c> FPEXC, <Rt>`, A32 (R56). -/
def execVmsrA32 (cond t : BitVec 4) (s : State) : Host.Outcome State Fault Refusal :=
  withCondA32 cond (vmsrStep (conditionA32 cond s.env) t s)

/-- `VMRS<c> <Rt>, FPEXC`, T32 (R55). -/
def execVmrsT32 (t : BitVec 4) (s : State) : Host.Outcome State Fault Refusal := vmrsStep (conditionT32 s.env) t s

/-- `VMSR<c> FPEXC, <Rt>`, T32 (R56). -/
def execVmsrT32 (t : BitVec 4) (s : State) : Host.Outcome State Fault Refusal := vmsrStep (conditionT32 s.env) t s

end Sys2Proof.Machine
end

