-- ==== Sys2Proof/Machine/Dispatch.lean ====
section
/-! DEFINITION. One arm per instruction. -/

namespace Sys2Proof.Machine

def exec (i : Instr) (s : State) : Host.Outcome State Fault Refusal :=
  match i with
  | .vmrsA32 cond t => Sys2Proof.Machine.execVmrsA32 cond t s
  | .vmsrA32 cond t => Sys2Proof.Machine.execVmsrA32 cond t s
  | .vmrsT32 t => Sys2Proof.Machine.execVmrsT32 t s
  | .vmsrT32 t => Sys2Proof.Machine.execVmsrT32 t s

end Sys2Proof.Machine
end

