-- ==== Sys2Proof/Machine/Inputs.lean ====
section
/-! DEFINITION. What each agent does in one step (R91): the processing element runs an instruction (a), the others are inputs
(b to d). -/

namespace Sys2Proof.Machine

/-- An input that is an instruction of the same processing element: none runs once an outcome has ended the run (R74: "no
instruction of the same processing element runs between them"; R79). -/
def whileRunning (r : Host.Outcome State Fault Refusal) (s : State) : Host.Outcome State Fault Refusal :=
  match s.outcome with
  | some o => .fault (.runEnded o)
  | none => r

/-- The processing element's step (R91 a): the instruction at `pc`, unless a raised outcome has ended the run (R79). -/
def runInstruction (s : State) : Host.Outcome State Fault Refusal :=
  whileRunning (match fetch s with
    | .error r => .refused r
    | .ok i => exec i s) s

/-- The environment supplies `ConditionPassed` for one step (R51). -/
def withCondition (passed : Bool) (s : State) : State := { s with env := { s.env with conditionPassed := passed } }

/-- The environment changes `E` (R91 c, D20). -/
def inputEnvironment (e : Env) (s : State) : State := { s with env := e }

/-- A write through FPEXC32_EL2 (R3, R38, D19). -/
def inputAArch64Write (v : Word) (s : State) : State := setFPEXC v s

/-- The synchronisation event (R43): later gated accesses see `S[30]`. -/
def inputSynchronise (s : State) : State := { s with enOld := none }

/-- `FPSyncException(cause)` (R74): the record, then the synchronous exception, as one event. A cause that cannot arise under `P`
and `E` is refused. DESIGN CHOICE (entry 28): the gate of EN is not asked. -/
def inputFpException (cause : FPCause) (s : State) : Host.Outcome State Fault Refusal :=
  if fpCausePossible s.cfg s.env cause then
    .next (raise (.fpSyncException cause) { s with fpexc := recordFP s.cfg cause s.fpexc })
  else .refused .impossibleInput

/-- `UnallocatedCP10or11Exception` (R75), in the encoding space of `ExecutingCP10or11Instr()`. -/
def inputUnallocated (s : State) : Host.Outcome State Fault Refusal :=
  if s.env.executingCp10or11 then
    .next (raise .unallocatedCp10or11 { s with fpexc := recordUnallocated s.cfg s.fpexc })
  else .refused .impossibleInput

/-- The gate of R60 and R67: with the Effective EN at 0, an instruction that accesses the FPSCR or Q0-Q15 raises Undefined and
leaves `S` alone (D10); else this control does not object (R61), and the instruction itself is the enclosing model's (entry 16). -/
def inputGatedAccess (accesses : List FPAccess) (s : State) : State :=
  if gatedBy accesses && !effectiveEN s.cfg s.env (enSeen s) then raise (.undefined .enGate) (drawn s) else drawn s

/-- `WarmReset` (R85): `S <- draw(32)`, then EN becomes 0. `x`, `pc` and `E` are free inputs (R86, D26, entry 15). -/
def inputWarmReset (x : Vector Word 15) (pc : Word) (e : Env) (s : State) : State :=
  { s with fpexc := nextDraw s &&& ~~~mEN, x := x, pc := pc, env := e, enOld := none, outcome := none, draws := s.draws + 1 }

/-- One step of one agent. -/
def applyInput (i : Input) (s : State) : Host.Outcome State Fault Refusal :=
  match i with
  | .instruction passed => runInstruction (withCondition passed s)
  | .environment e => .next (inputEnvironment e s)
  | .resume x pc e => .next (resumeAt x pc e s)
  | .aarch64Write v => .next (inputAArch64Write v s)
  | .synchronise => .next (inputSynchronise s)
  | .fpException cause => whileRunning (inputFpException cause s) s
  | .unallocated => whileRunning (inputUnallocated s) s
  | .gatedAccess accesses => whileRunning (.next (inputGatedAccess accesses s)) s
  | .warmReset x pc e => .next (inputWarmReset x pc e s)

end Sys2Proof.Machine
end

