-- ==== Sys2Proof/Machine/Step.lean ====
section
/-! DEFINITION. One step (R91): that of the agent whose turn it is, and the next instruction's where no turn is queued. -/

namespace Sys2Proof.Machine

def step (s : State) : Host.Outcome State Fault Refusal :=
  match s.inputs with
  | i :: rest => applyInput i { s with inputs := rest }
  | [] => runInstruction s

/-- `s` with the opcode-table word placed at `pc`, the instruction set it is read in selected, and no input or outcome before it
(entries 5, 6). -/
def State.withFetchWord (s : State) (nbits w : Nat) : State := placeWord (tableWord nbits w) s

end Sys2Proof.Machine
end

