-- ==== Sys2Proof/Safety.lean ====
section
/-! DEFINITION. What a good run is (R91), the premise on the environment that claims about runs name (R38, R91), and the duties
the spec puts on software (R76, R87). -/

namespace Sys2Proof.Machine

/-- The step of an instruction. -/
def isInstruction : Input → Bool
  | .instruction _ => true
  | .environment _ => false
  | .resume _ _ _ => false
  | .aarch64Write _ => false
  | .synchronise => false
  | .fpException _ => false
  | .unallocated => false
  | .gatedAccess _ => false
  | .warmReset _ _ _ => false

/-- The last step completed: no outcome has ended the run (R79, R91). -/
def completed (s : State) : Bool := s.outcome == none

/-- The run has "ended in `Undefined`, `SystemAccessTrapA64` or `HypTrap`" (R91): its result is that outcome (R79). The synchronous
exception of a recorded event (R74, R75) is handed to the enclosing model, whose handler the run goes on with (program P4). -/
def endedInOutcome (s : State) : Bool :=
  match s.outcome with
  | none => false
  | some (.undefined _) => true
  | some (.systemAccessTrapA64 _ _) => true
  | some (.hypTrap _) => true
  | some (.fpSyncException _) => false
  | some .unallocatedCp10or11 => false

/-- The next step is an instruction's. -/
def instructionIsNext (s : State) : Bool :=
  match s.inputs with
  | [] => true
  | i :: _ => isInstruction i

/-- A run of `k` steps that is "good and final when its last instruction has completed" (R91): instructions ran, none of the states
on the way is one where the run has ended in an outcome, whatever takes over after it (R79), and no exception is left to hand over
at the end (entry 29). -/
def goodRun (k : Nat) (s s' : State) : Prop :=
  Sys2Proof.core.run k s = .next s' ∧ completed s' = true ∧
  (∀ j t, j ≤ k → Sys2Proof.core.run j s = .next t → endedInOutcome t = false) ∧
  ∃ j t, j < k ∧ Sys2Proof.core.run j s = .next t ∧ instructionIsNext t = true

/-- The instruction's condition holds (R51): in A32 `cond = 1110` always does; in T32 so does an instruction outside an IT block;
else it is the environment's `ConditionPassed`. -/
def conditionHolds (i : Instr) (e : Env) : Bool :=
  match i with
  | .vmrsA32 cond _ => cond == 14#4 || e.conditionPassed
  | .vmsrA32 cond _ => cond == 14#4 || e.conditionPassed
  | .vmrsT32 _ => !e.inITBlock || e.conditionPassed
  | .vmsrT32 _ => !e.inITBlock || e.conditionPassed

/-! The conditions of AccessCheck (R57), apart from their order. -/

/-- `NSTERM` (R59). -/
def nsacrObjects (c : Config) (e : Env) : Prop :=
  c.featAA32EL3 = true ∧ e.el3UsingAArch32 = true ∧ e.scrNs = 1#1 ∧ e.nsacrCp10 = 0#1

/-- `CPTR_EL3.TFP` under an EL3 using AArch64: lines 1.1, 1.6, 2.1, 2.3. -/
def el3Objects (c : Config) (e : Env) : Prop :=
  c.haveEL3 = true ∧ c.featAA64EL3 = true ∧ e.el3UsingAArch32 = false ∧ e.cptrEl3Tfp = 1#1

/-- `CPTR_EL2.TFP` (line 1.3), or in a host `CPTR_EL2.FPEN` (line 1.4), under an EL2 using AArch64. -/
def el2A64Objects (c : Config) (e : Env) : Prop :=
  c.featAA64EL2 = true ∧ e.el2UsingAArch32 = false ∧
    ((e.el2Enabled = true ∧ e.el2IsInHost = false ∧ e.cptrEl2Tfp = 1#1) ∨
     (e.el2IsInHost = true ∧ (e.cptrEl2Fpen = 0b00#2 ∨ e.cptrEl2Fpen = 0b10#2)))

/-- `HCPTR.TCP10` at EL1 under an EL2 using AArch32: line 1.5, whose NSACR alternative line 1.2 excludes (R59 c). -/
def hypObjectsAtEL1 (c : Config) (e : Env) : Prop :=
  e.el2Enabled = true ∧ c.featAA32EL2 = true ∧ e.el2UsingAArch32 = true ∧ e.hcptrTcp10 = 1#1

/-- Line 2.2. -/
def hypObjectsAtEL2 (c : Config) (e : Env) : Prop := e.el2Enabled = true ∧ (nsacrObjects c e ∨ e.hcptrTcp10 = 1#1)

/-- The step from `s` is an instruction's, and `t` is the state it runs in: its turn is taken from the queue and the environment has
supplied `ConditionPassed` (R51); with nothing queued the state is `s` (R91 a, entry 11). -/
def instructionRunsIn (s t : State) : Prop :=
  (s.inputs = [] ∧ t = s) ∨
  ∃ passed rest, s.inputs = .instruction passed :: rest ∧
    t = { s with inputs := rest, env := { s.env with conditionPassed := passed } }

/-- An input is a write through FPEXC32_EL2. -/
def isAArch64Write : Input → Bool
  | .instruction _ => false
  | .environment _ => false
  | .resume _ _ _ => false
  | .aarch64Write _ => true
  | .synchronise => false
  | .fpException _ => false
  | .unallocated => false
  | .gatedAccess _ => false
  | .warmReset _ _ _ => false

/-- An input is a Warm reset. -/
def isWarmReset : Input → Bool
  | .instruction _ => false
  | .environment _ => false
  | .resume _ _ _ => false
  | .aarch64Write _ => false
  | .synchronise => false
  | .fpException _ => false
  | .unallocated => false
  | .gatedAccess _ => false
  | .warmReset _ _ _ => true

/-- The premise `NoAArch64WriteToFPEXC` (R38, R91, D19): no queued input writes through FPEXC32_EL2. -/
def noAArch64WriteToFPEXC (s : State) : Bool := s.inputs.all fun i => !isAArch64Write i

/-- No queued input is a Warm reset. -/
def noWarmReset (s : State) : Bool := s.inputs.all fun i => !isWarmReset i

/-- R76: "on return from the handler, `S[29] == 0` and `S & M_FLAGS & WMASK(P) == 0`". -/
def handlerDuty (s : State) : Bool :=
  !s.fpexc.getLsbD 29 && s.fpexc &&& mFlags &&& wMask s.cfg == 0x00000000#32

/-- R87: EN has been set, which software must do after a Warm reset before any access that EN gates. -/
def bootDone (s : State) : Bool := s.fpexc.getLsbD 30

/-- The bits of `S` that no VMSR and no hardware record can change under `P`: all but `WMASK(P)`, DEX, TFV and the flags (R31,
R74, R75). -/
def fixedBits (c : Config) : Word := ~~~(wMask c ||| mDEX ||| mTFV ||| mFlags)

/-- What every step keeps: the program text is in its canonical form, `P` is within R6's constraint, and under IMMEDIATE no old
EN bit is kept (R43). -/
def inv (s : State) : Bool :=
  progWf s.program && configWf s.cfg && (s.cfg.enSync == .deferred || s.enOld == none)

end Sys2Proof.Machine
end

