-- ==== Sys2Proof/Certificates/Slice0/Obligations.lean ====
section
/-! DEFINITION. The statements for the provers. Each docstring names the rule of the spec it formalises, or the log entry where it
rests on a choice of the model's. A statement about a free value holds for every value of the counter `draws` and every draw. -/

open Sys2Proof Sys2Proof.Machine

/-! Encoding. -/

/-- The example words of R48 decode to the instructions it gives them, in A32 and in T32; the last two A32 words are IS6 and
IS7 of 95_test_vectors.md, `cond = 0000`. -/
def Obligations.SpecWordsDecodeToTheirInstructions : Prop :=
  decode .a32 0xEEF80A10#32 = .ok (.vmrsA32 14#4 0#4) ∧ decode .a32 0xEEE80A10#32 = .ok (.vmsrA32 14#4 0#4) ∧
  decode .a32 0xEEF83A10#32 = .ok (.vmrsA32 14#4 3#4) ∧ decode .a32 0xEEE81A10#32 = .ok (.vmsrA32 14#4 1#4) ∧
  decode .t32 0xEEF80A10#32 = .ok (.vmrsT32 0#4) ∧ decode .t32 0xEEE80A10#32 = .ok (.vmsrT32 0#4) ∧
  decode .a32 0x0EE81A10#32 = .ok (.vmsrA32 0#4 1#4) ∧ decode .a32 0x0EF80A10#32 = .ok (.vmrsA32 0#4 0#4)

/-- Decoding the word of a well-formed instruction gives it back, with every operand value the encoding admits (R48, R50). -/
def Obligations.DecodeOfEncodeIsTheInstruction : Prop :=
  ∀ i : Instr, i.wf = true → decode i.iset (encode i) = .ok i

/-- A word the decoder admits is the word of the instruction it gives, which is well formed and of that instruction set (R48,
R50). -/
def Obligations.EncodeOfDecodeIsTheWord : Prop :=
  ∀ (k : ISet) (w : Word) (i : Instr), decode k w = .ok i → encode i = w ∧ i.wf = true ∧ i.iset = k

/-- The decoder admits exactly the words that match a row of R48's table, with `t` not 15 (R50) and, in A32, with `cond` not
`1111`. -/
def Obligations.DecoderAdmitsExactlyTheTableRows : Prop :=
  ∀ w : Word,
    ((∃ i, decode .a32 w = .ok i) ↔
      (w &&& 0x0FFF0FFF#32 = 0x0EF80A10#32 ∨ w &&& 0x0FFF0FFF#32 = 0x0EE80A10#32) ∧
        w.extractLsb' 28 4 ≠ 15#4 ∧ w.extractLsb' 12 4 ≠ 15#4) ∧
    ((∃ i, decode .t32 w = .ok i) ↔
      (w &&& 0xFFFF0FFF#32 = 0xEEF80A10#32 ∨ w &&& 0xFFFF0FFF#32 = 0xEEE80A10#32) ∧ w.extractLsb' 12 4 ≠ 15#4)

/-- Every word the decoder refuses is refused under the name of a reason that holds of it (R48, R49, R50, R52 b, R91 say that
such a word is refused). Which reason is tried first, and its name, are the model's choice (entry 9): no VMRS or VMSR at all,
A32 `cond = 1111`, another special register, a should-be-zero bit, `t = 15`, in that order. -/
def Obligations.RefusedWordsAreRefusedByName : Prop :=
  ∀ w : Word,
    (∀ k, w &&& 0x0FE00F10#32 ≠ 0x0EE00A10#32 → decode k w = .error .notVmrsVmsr) ∧
    (w &&& 0x0FE00F10#32 = 0x0EE00A10#32 →
      (w.extractLsb' 28 4 ≠ 14#4 → decode .t32 w = .error .notVmrsVmsr) ∧
      (w.extractLsb' 28 4 = 15#4 → decode .a32 w = .error .condReserved) ∧
      (∀ k, (k = .t32 ∧ w.extractLsb' 28 4 = 14#4) ∨ (k = .a32 ∧ w.extractLsb' 28 4 ≠ 15#4) →
        (w.extractLsb' 16 4 ≠ 8#4 → decode k w = .error (.otherSpecialRegister (w.extractLsb' 16 4))) ∧
        (w.extractLsb' 16 4 = 8#4 → w &&& 0x000000EF#32 ≠ 0#32 → decode k w = .error .sbzSet) ∧
        (w.extractLsb' 16 4 = 8#4 → w &&& 0x000000EF#32 = 0#32 → w.extractLsb' 12 4 = 15#4 →
          decode k w = .error .rtFifteen)))

/-! The step. -/

/-- With no outcome raised, an instruction's step is `exec` of the instruction decoded from the program text at `pc` (R91 a;
`exec` itself moves `pc`, R36): at that state where no turn is queued, and, where the instruction's turn is the oldest queued
(entry 11), at the state with that turn taken and the turn's own `ConditionPassed` (R51). -/
def Obligations.StepRunsTheDecodedInstruction : Prop :=
  ∀ (s : State) (w : Word) (i : Instr), s.outcome = none → progRead s.program s.pc.toNat = some w →
    decode s.env.iset w = .ok i →
    (s.inputs = [] → step s = exec i s) ∧
    (∀ passed rest, s.inputs = .instruction passed :: rest →
      step s = exec i { s with inputs := rest, env := { s.env with conditionPassed := passed } })

/-- The model's choice (entries 10, 11): a step is that of the oldest turn queued, with the turn taken, and a raised outcome
stops every instruction's step, queued or not, until an input takes over (R79, D18). -/
def Obligations.InputsComeFirstAndAnOutcomeEndsTheRun : Prop :=
  ∀ s : State,
    (∀ i rest, s.inputs = i :: rest → step s = applyInput i { s with inputs := rest }) ∧
    (∀ o, s.outcome = some o → (s.inputs = [] ∨ ∃ passed rest, s.inputs = .instruction passed :: rest) →
      step s = .fault (.runEnded o))

/-- Placing the word of a table row makes the next step run exactly the instruction the decoder reads from it (entries 5, 6). -/
def Obligations.PlacedWordIsTheNextInstruction : Prop :=
  ∀ (s : State) (nbits w : Nat) (i : Instr), decodeTableWord nbits w = some i →
    step (s.withFetchWord nbits w) = exec i (s.withFetchWord nbits w)

/-- R91 a: "an admitted instruction is never stuck". Every well-formed instruction answers a next state in every state. -/
def Obligations.AdmittedInstructionsAreNeverStuck : Prop :=
  ∀ (i : Instr) (s : State), i.wf = true → ∃ s', exec i s = .next s'

/-- An instruction no word decodes to is refused by name: `cond = 1111` (R48), `t = 15` (R50). -/
def Obligations.IllFormedInstructionsAreRefused : Prop :=
  ∀ (cond t : BitVec 4) (s : State),
    exec (.vmrsA32 15#4 t) s = .refused .condReserved ∧ exec (.vmsrA32 15#4 t) s = .refused .condReserved ∧
    (cond ≠ 15#4 → exec (.vmrsA32 cond 15#4) s = .refused .rtFifteen ∧ exec (.vmsrA32 cond 15#4) s = .refused .rtFifteen) ∧
    exec (.vmrsT32 15#4) s = .refused .rtFifteen ∧ exec (.vmsrT32 15#4) s = .refused .rtFifteen

/-! VMRS and VMSR. -/

/-- R55 for both VMRS forms (constructors vmrsA32 and vmrsT32), where the condition holds and AccessCheck says OK: `x[t]`
becomes the read view of `S` under a fresh draw, `pc` advances by 4, and nothing else changes but the model's own draw
counter (entry 4). The draw is a free value: the statement holds whatever it is. -/
def Obligations.VmrsCompletesWithTheReadView : Prop :=
  ∀ (i : Instr) (s : State), i.wf = true → i.isRead = true → conditionHolds i s.env = true → accessCheck s.cfg s.env = .ok →
    exec i s = .next { s with
      x := s.x.setIfInBounds i.rt.toNat (readFPEXC s.cfg s.fpexc (Config.freeWord s.draws))
      pc := s.pc + 4#32
      draws := s.draws + 1 }

/-- R56 for both VMSR forms (constructors vmsrA32 and vmsrT32), where the condition holds and AccessCheck says OK: `S`
becomes the merge of `S` and `x[t]`, `pc` advances by 4, and nothing else changes, but that under DEFERRED the old EN is kept
where EN changes (R43, entry 14). -/
def Obligations.VmsrCompletesWithTheWriteMerge : Prop :=
  ∀ (i : Instr) (s : State) (v : Word), i.wf = true → i.isRead = false → conditionHolds i s.env = true →
    accessCheck s.cfg s.env = .ok → s.x[i.rt.toNat]? = some v →
    exec i s = .next { s with
      fpexc := writeFPEXC s.cfg s.fpexc v
      pc := s.pc + 4#32
      enOld := if s.cfg.enSync = .deferred ∧ s.fpexc.getLsbD 30 ≠ v.getLsbD 30 then some (s.fpexc.getLsbD 30)
               else s.enOld }

/-- R51, R55, R56: when the condition fails the instruction does nothing but advance `pc` by 4; the permission check is not
reached. -/
def Obligations.FailedConditionOnlyAdvancesPc : Prop :=
  ∀ (i : Instr) (s : State), i.wf = true → conditionHolds i s.env = false → exec i s = .next { s with pc := s.pc + 4#32 }

/-- R57, R70 to R72, R79: where AccessCheck does not say OK, every form raises the outcome it names, and `S`, `x`, `pc` and
all else are unchanged. That the outcome stands in a field of a next state is the model's choice (entry 10). -/
def Obligations.DeniedAccessRaisesItsOutcomeAndNothingElse : Prop :=
  ∀ (i : Instr) (s : State), i.wf = true → conditionHolds i s.env = true →
    (∀ l, accessCheck s.cfg s.env = .undef l → exec i s = .next { s with outcome := some (.undefined l) }) ∧
    (∀ el ec, accessCheck s.cfg s.env = .trapA64 el ec →
      exec i s = .next { s with outcome := some (.systemAccessTrapA64 el ec) }) ∧
    (∀ ec, accessCheck s.cfg s.env = .hypTrap ec → exec i s = .next { s with outcome := some (.hypTrap ec) })

/-- The frame of VMRS, both forms, whatever its outcome: every general-purpose register but `x[t]` is unchanged, and so are
`S` and every flag in it (R39), EN's old bit, `P`, `E`, the queued inputs and the program text at every address. -/
def Obligations.VmrsLeavesAllElseUnchanged : Prop :=
  ∀ (i : Instr) (s s' : State), i.isRead = true → exec i s = .next s' →
    (∀ r : Nat, r ≠ i.rt.toNat → s'.x[r]? = s.x[r]?) ∧ s'.fpexc = s.fpexc ∧ s'.enOld = s.enOld ∧ s'.cfg = s.cfg ∧
    s'.env = s.env ∧ s'.inputs = s.inputs ∧ (∀ a, progRead s'.program a = progRead s.program a)

/-- The frame of VMSR, both forms, whatever its outcome: every general-purpose register is unchanged, every bit of `S`
outside EN, DEX, the reserved bits and the flags is unchanged (R31, R56), and so are `P`, `E`, the draws, the queued inputs
and the program text at every address. -/
def Obligations.VmsrLeavesAllElseUnchanged : Prop :=
  ∀ (i : Instr) (s s' : State), i.isRead = false → exec i s = .next s' →
    s'.x = s.x ∧ s'.fpexc &&& 0x84000000#32 = s.fpexc &&& 0x84000000#32 ∧
    (∀ n, (wMask s.cfg).getLsbD n = false → s'.fpexc.getLsbD n = s.fpexc.getLsbD n) ∧ s'.cfg = s.cfg ∧ s'.env = s.env ∧
    s'.draws = s.draws ∧ s'.inputs = s.inputs ∧ (∀ a, progRead s'.program a = progRead s.program a)

/-! The permission check. -/

/-- R59, its four summaries (a) to (d) of AccessCheck, `NSTERM` written out. -/
def Obligations.AccessCheckInFixedConfigurations : Prop :=
  ∀ (c : Config) (e : Env),
    (c.featAA32EL1 = false → ∃ l, accessCheck c e = .undef l) ∧
    (c.featAA32EL1 = true → e.el2Enabled = false → e.el2IsInHost = false → c.haveEL3 = false → c.featAA32EL3 = false →
      (e.el = .el0 → ∃ l, accessCheck c e = .undef l) ∧
      (e.el = .el1 → e.cpacrCp10 = 0b00#2 → ∃ l, accessCheck c e = .undef l) ∧
      (e.el = .el1 → e.cpacrCp10 ≠ 0b00#2 → accessCheck c e = .ok)) ∧
    (c.featAA32EL1 = true → c.featAA64EL2 = false → c.featAA64EL3 = false →
      ∀ nsterm : Prop,
        (nsterm ↔ c.featAA32EL3 = true ∧ e.el3UsingAArch32 = true ∧ e.scrNs = 1#1 ∧ e.nsacrCp10 = 0#1) →
        (∀ el ec, accessCheck c e ≠ .trapA64 el ec) ∧
        (e.el = .el1 → (nsterm ∨ e.cpacrCp10 = 0b00#2) → ∃ l, accessCheck c e = .undef l) ∧
        (e.el = .el1 → ¬ (nsterm ∨ e.cpacrCp10 = 0b00#2) →
          (e.el2Enabled = true ∧ c.featAA32EL2 = true ∧ e.el2UsingAArch32 = true ∧ e.hcptrTcp10 = 1#1 →
            accessCheck c e = .hypTrap 0x08) ∧
          (¬ (e.el2Enabled = true ∧ c.featAA32EL2 = true ∧ e.el2UsingAArch32 = true ∧ e.hcptrTcp10 = 1#1) →
            accessCheck c e = .ok)) ∧
        (e.el = .el2 → e.el2Enabled = true ∧ (nsterm ∨ e.hcptrTcp10 = 1#1) → accessCheck c e = .hypTrap 0x00) ∧
        (e.el = .el2 → ¬ (e.el2Enabled = true ∧ (nsterm ∨ e.hcptrTcp10 = 1#1)) → accessCheck c e = .ok) ∧
        (e.el = .el3 → e.cpacrCp10 = 0b00#2 → ∃ l, accessCheck c e = .undef l) ∧
        (e.el = .el3 → e.cpacrCp10 ≠ 0b00#2 → accessCheck c e = .ok)) ∧
    (e.el = .el0 → ∃ l, accessCheck c e = .undef l)

/-- The consequences of the order of R57 that R73 lists: `FEAT_AA32EL1` absent and EL0 win over everything; with
`EL3SDDUndefPriority()` the EL3 control gives UNDEFINED first (lines 1.1, 2.1); otherwise, at EL1, `CPACR.cp10 = '00'` and
the NSACR term win over every trap (line 1.2), and a trap to EL2 by any of the lines 1.3, 1.4 and 1.5 wins over the trap to
EL3, whether the EL3 control objects or not. -/
def Obligations.FirstConditionOfAccessCheckWins : Prop :=
  ∀ (c : Config) (e : Env),
    (c.featAA32EL1 = false → accessCheck c e = .undef .lineA) ∧
    (c.featAA32EL1 = true → e.el = .el0 → accessCheck c e = .undef .lineB) ∧
    (c.featAA32EL1 = true → e.el3SDDUndefPriority = true → el3Objects c e →
      (e.el = .el1 → accessCheck c e = .undef .line11) ∧ (e.el = .el2 → accessCheck c e = .undef .line21)) ∧
    (c.featAA32EL1 = true → e.el = .el1 → ¬ (e.el3SDDUndefPriority = true ∧ el3Objects c e) →
      (e.cpacrCp10 = 0b00#2 → accessCheck c e = .undef .line12) ∧
      (nsacrObjects c e → accessCheck c e = .undef .line12) ∧
      (e.cpacrCp10 ≠ 0b00#2 → ¬ nsacrObjects c e →
        (e.el2Enabled = true → c.featAA64EL2 = true → e.el2UsingAArch32 = false → e.el2IsInHost = false →
          e.cptrEl2Tfp = 1#1 → accessCheck c e = .trapA64 .el2 0x07) ∧
        (c.featAA64EL2 = true → e.el2UsingAArch32 = false → e.el2IsInHost = true →
          (e.cptrEl2Fpen = 0b00#2 ∨ e.cptrEl2Fpen = 0b10#2) → accessCheck c e = .trapA64 .el2 0x07) ∧
        (e.el2Enabled = true → c.featAA32EL2 = true → e.el2UsingAArch32 = true → e.hcptrTcp10 = 1#1 →
          accessCheck c e = .hypTrap 0x08)))

/-- Exactly when each trap is raised, from which level, by which control and with which code (R57, R71, R72). To an AArch64
EL2: from EL1, by `CPTR_EL2.TFP` or in a host `CPTR_EL2.FPEN`, code `0x07`. To an AArch64 EL3: from EL1 or EL2, by
`CPTR_EL3.TFP` with `EL3SDDUndef()` false, code `0x07`. To Hyp mode: from EL1 by `HCPTR.TCP10`, code `0x08`, and from EL2 by
`HCPTR.TCP10` or the NSACR term, code `0x00`. Each where no earlier line of the check holds. -/
def Obligations.TrapCodesAndTheirConditions : Prop :=
  ∀ (c : Config) (e : Env),
    (∀ target ec, accessCheck c e = .trapA64 target ec ↔ ec = 0x07 ∧ c.featAA32EL1 = true ∧
      ((target = .el2 ∧ e.el = .el1 ∧ el2A64Objects c e ∧ ¬ (e.el3SDDUndefPriority = true ∧ el3Objects c e) ∧
         ¬ nsacrObjects c e ∧ e.cpacrCp10 ≠ 0b00#2) ∨
       (target = .el3 ∧ el3Objects c e ∧ e.el3SDDUndefPriority = false ∧ e.el3SDDUndef = false ∧
         ((e.el = .el1 ∧ ¬ nsacrObjects c e ∧ e.cpacrCp10 ≠ 0b00#2 ∧ ¬ el2A64Objects c e ∧ ¬ hypObjectsAtEL1 c e) ∨
          (e.el = .el2 ∧ ¬ hypObjectsAtEL2 c e))))) ∧
    (∀ ec, accessCheck c e = .hypTrap ec ↔ c.featAA32EL1 = true ∧ ¬ (e.el3SDDUndefPriority = true ∧ el3Objects c e) ∧
      ((ec = 0x08 ∧ e.el = .el1 ∧ hypObjectsAtEL1 c e ∧ ¬ nsacrObjects c e ∧ e.cpacrCp10 ≠ 0b00#2) ∨
       (ec = 0x00 ∧ e.el = .el2 ∧ hypObjectsAtEL2 c e)))

/-- R58: the outcome of VMRS and VMSR does not depend on any bit of `S`; FPEXC.EN does not gate access to FPEXC. -/
def Obligations.AccessOutcomeDoesNotDependOnFPEXC : Prop :=
  ∀ (i : Instr) (s : State) (v : Word) (s1 : State), exec i s = .next s1 →
    ∃ s2, exec i { s with fpexc := v } = .next s2 ∧ s2.outcome = s1.outcome ∧ s2.pc = s1.pc

/-- R4 with R70 and R79: when FEAT_AA32EL1 is not implemented, a direct access to FPEXC is UNDEFINED, in every form and at
every level. That the Undefined outcome is a next state with the field `outcome` set and all else equal is the model's choice
(entry 10), and that a failed condition keeps the access from happening is R51 (entry 7). -/
def Obligations.AbsentRegisterIsUndefined : Prop :=
  ∀ (i : Instr) (s : State), i.wf = true → conditionHolds i s.env = true → s.cfg.featAA32EL1 = false →
    ∃ l, exec i s = .next { s with outcome := some (.undefined l) }

/-! The fields of FPEXC: the read view and the write merge. -/

/-- R11: every read returns 0 in bit 31 (EX), a write never changes it, and no read depends on it. -/
def Obligations.ExReadsZeroAndIgnoresWrites : Prop :=
  ∀ (c : Config) (S u v : Word),
    (readFPEXC c S u).getLsbD 31 = false ∧ (writeFPEXC c S v).getLsbD 31 = S.getLsbD 31 ∧
    readFPEXC c (S ^^^ 0x80000000#32) u = readFPEXC c S u

/-- R12: a read returns `S[30]` in EN, a write stores the written bit, no recorded exception changes it, and a Warm reset
makes it 0, whatever was drawn. -/
def Obligations.EnReadsWritesAndResetsToZero : Prop :=
  (∀ (c : Config) (S u v : Word), (readFPEXC c S u).getLsbD 30 = S.getLsbD 30 ∧
    (writeFPEXC c S v).getLsbD 30 = v.getLsbD 30) ∧
  (∀ (s s' : State) (i : Input) (rest : List Input), s.inputs = i :: rest → ((∃ c, i = .fpException c) ∨ i = .unallocated) →
    step s = .next s' → s'.fpexc.getLsbD 30 = s.fpexc.getLsbD 30) ∧
  (∀ (s s' : State) (x : Vector Word 15) (pc : Word) (e : Env) (rest : List Input),
    s.inputs = .warmReset x pc e :: rest → step s = .next s' → s'.fpexc.getLsbD 30 = false)

/-- DEX where it is not RES0 (R13), and where it is (R15, R32): it then reads and stores as a reserved bit, neither cause of
R74 can arise, and no hardware event sets it: an exception from an unallocated encoding only ever clears it (R75, entry 13). -/
def Obligations.DexReadsAndWritesByConfiguration : Prop :=
  ∀ (c : Config) (S u v : Word),
    (dexRes0 c = false → (readFPEXC c S u).getLsbD 29 = S.getLsbD 29 ∧ (writeFPEXC c S v).getLsbD 29 = v.getLsbD 29) ∧
    (c.trapIde = false → c.trapIxe = false → c.trapUfe = false → c.trapOfe = false → c.trapDze = false → c.trapIoe = false →
      c.lenStrideRaz = true →
      (c.resStorage.getLsbD 29 = true →
        (readFPEXC c S u).getLsbD 29 = S.getLsbD 29 ∧ (writeFPEXC c S v).getLsbD 29 = v.getLsbD 29) ∧
      (c.resStorage.getLsbD 29 = false →
        (readFPEXC c S u).getLsbD 29 = false ∧ (writeFPEXC c S v).getLsbD 29 = S.getLsbD 29) ∧
      (∀ e cause, fpCausePossible c e cause = false) ∧
      (S.getLsbD 29 = false → (recordUnallocated c S).getLsbD 29 = false))

/-- TFV by the table of R19, and "ignores writes" in every kind (R18): a status bit is `S[26]` when DEX is 1 and the draw's
bit when DEX is 0. -/
def Obligations.TfvReadsByKindAndIgnoresWrites : Prop :=
  ∀ (c : Config) (S u v : Word) (anyTrap : Bool),
    anyTrap = (c.trapIde || c.trapIxe || c.trapUfe || c.trapOfe || c.trapDze || c.trapIoe) →
    (writeFPEXC c S v).getLsbD 26 = S.getLsbD 26 ∧
    (anyTrap = true → c.lenStrideRaz = false →
      (readFPEXC c S u).getLsbD 26 = if S.getLsbD 29 then S.getLsbD 26 else u.getLsbD 26) ∧
    (anyTrap = true → c.lenStrideRaz = true → (readFPEXC c S u).getLsbD 26 = true) ∧
    (anyTrap = false → c.lenStrideRaz = false → (readFPEXC c S u).getLsbD 26 = false) ∧
    (anyTrap = false → c.lenStrideRaz = true → (readFPEXC c S u).getLsbD 26 = decide (c.tfvOverlap = .raoWi))

/-- The six flag bits (R22, R24 to R29): a flag whose trapping is not implemented reads 0 and ignores writes; an implemented
one stores what is written, reads as stored when DEX and TFV of the same read are both 1, and as the draw's bit otherwise. -/
def Obligations.FlagBitsReadAndWriteByValidity : Prop :=
  ∀ (c : Config) (S u v : Word) (n : Nat) (impl : Bool),
    ((n = 7 ∧ impl = c.trapIde) ∨ (n = 4 ∧ impl = c.trapIxe) ∨ (n = 3 ∧ impl = c.trapUfe) ∨ (n = 2 ∧ impl = c.trapOfe) ∨
      (n = 1 ∧ impl = c.trapDze) ∨ (n = 0 ∧ impl = c.trapIoe)) →
    (impl = false → (readFPEXC c S u).getLsbD n = false ∧ (writeFPEXC c S v).getLsbD n = S.getLsbD n) ∧
    (impl = true → (writeFPEXC c S v).getLsbD n = v.getLsbD n ∧
      (readFPEXC c S u).getLsbD n =
        if (readFPEXC c S u).getLsbD 29 && (readFPEXC c S u).getLsbD 26 then S.getLsbD n else u.getLsbD n)

/-- The reserved bits 28, 27, 25:11, 6:5 (RES0: R16, R17, R20, R23) and 10:8 (RES1: R21), as R32 admits them: one backed by
storage reads what was written; a hardwired one reads 0, or 1 for RES1, and ignores writes. -/
def Obligations.ReservedBitsAreHardwiredOrStored : Prop :=
  ∀ (c : Config) (S u v : Word) (n : Nat),
    ((n = 28 ∨ n = 27 ∨ (11 ≤ n ∧ n ≤ 25) ∨ n = 6 ∨ n = 5) ∨ (8 ≤ n ∧ n ≤ 10)) →
    (c.resStorage.getLsbD n = true →
      (readFPEXC c S u).getLsbD n = S.getLsbD n ∧ (writeFPEXC c S v).getLsbD n = v.getLsbD n) ∧
    (c.resStorage.getLsbD n = false →
      (readFPEXC c S u).getLsbD n = decide (8 ≤ n ∧ n ≤ 10) ∧ (writeFPEXC c S v).getLsbD n = S.getLsbD n)

/-- R30: the only bits of the draw that can reach a read are 26, 7, 4, 3, 2, 1 and 0. -/
def Obligations.DrawsReachOnlyStatusBits : Prop :=
  ∀ (c : Config) (S u u' : Word),
    readFPEXC c S u &&& ~~~0x0400009F#32 = readFPEXC c S u' &&& ~~~0x0400009F#32 ∧
    (u &&& 0x0400009F#32 = u' &&& 0x0400009F#32 → readFPEXC c S u = readFPEXC c S u')

/-- The laws of the write merge (R31): nothing outside `WMASK(P)` changes, everything inside is the written value, the last
write wins, and EX and TFV are outside `WMASK(P)` in every configuration. -/
def Obligations.WriteMergeLaws : Prop :=
  ∀ (c : Config) (S v v1 : Word),
    writeFPEXC c S v &&& ~~~(wMask c) = S &&& ~~~(wMask c) ∧ writeFPEXC c S v &&& wMask c = v &&& wMask c ∧
    writeFPEXC c (writeFPEXC c S v1) v = writeFPEXC c S v ∧ wMask c &&& 0x84000000#32 = 0x00000000#32

/-- Save, clear, restore (program P2 of 95_test_vectors.md, from R30 and R31): a value read while DEX and TFV read 1, written
back after any other write, restores the whole of `S`. -/
def Obligations.SaveClearRestoreIsExact : Prop :=
  ∀ (c : Config) (S u v : Word), (readFPEXC c S u).getLsbD 29 = true → (readFPEXC c S u).getLsbD 26 = true →
    writeFPEXC c (writeFPEXC c S v) (readFPEXC c S u) = S

/-- R55, corner case: two VMRS in a row leave `S` alone and may differ only in bits 26, 7, 4, 3, 2, 1 and 0. -/
def Obligations.TwoReadsInARowAgreeOnFixedBits : Prop :=
  ∀ (i j : Instr) (s s1 s2 : State) (a b : Word), i.isRead = true → j.isRead = true → i.rt ≠ j.rt →
    conditionHolds i s.env = true → conditionHolds j s.env = true → accessCheck s.cfg s.env = .ok → exec i s = .next s1 →
    exec j s1 = .next s2 → s2.x[i.rt.toNat]? = some a → s2.x[j.rt.toNat]? = some b →
    a &&& ~~~0x0400009F#32 = b &&& ~~~0x0400009F#32 ∧ s2.fpexc = s.fpexc

/-- R42 (the spec's own decision, D12): a VMRS that follows a VMSR in program order reads the `S` that the VMSR left. EN
reads as written, and so does DEX where it is not RES0. -/
def Obligations.ReadAfterWriteSeesTheWrite : Prop :=
  ∀ (i j : Instr) (s s1 s2 : State) (v r : Word), i.isRead = false → j.isRead = true → conditionHolds i s.env = true →
    conditionHolds j s.env = true → accessCheck s.cfg s.env = .ok → s.x[i.rt.toNat]? = some v → exec i s = .next s1 →
    exec j s1 = .next s2 → s2.x[j.rt.toNat]? = some r →
    r = readFPEXC s.cfg (writeFPEXC s.cfg s.fpexc v) (Config.freeWord s.draws) ∧ r.getLsbD 30 = v.getLsbD 30 ∧
    (dexRes0 s.cfg = false → r.getLsbD 29 = v.getLsbD 29)

/-! What hardware records. -/

/-- R74, `Trapped(X)`: DEX and TFV become 1; a flag in `X` becomes 1; a flag not in `X` becomes 0 under P_FLAG_OVERWRITE and
is unchanged otherwise; every other bit of `S`, `x` and `pc` are unchanged; and the synchronous exception is handed over
(entry 10). -/
def Obligations.TrappedExceptionIsRecorded : Prop :=
  ∀ (s : State) (X : ExcSet) (hd hf : Bool) (rest : List Input), s.inputs = .fpException (.trapped X hd hf) :: rest →
    s.outcome = none → fpCausePossible s.cfg s.env (.trapped X hd hf) = true →
    ∃ s', step s = .next s' ∧ s'.fpexc.getLsbD 29 = true ∧ s'.fpexc.getLsbD 26 = true ∧
      (∀ n inX, ((n = 7 ∧ inX = X.id) ∨ (n = 4 ∧ inX = X.ix) ∨ (n = 3 ∧ inX = X.uf) ∨ (n = 2 ∧ inX = X.of) ∨
          (n = 1 ∧ inX = X.dz) ∨ (n = 0 ∧ inX = X.io)) →
        (inX = true → s'.fpexc.getLsbD n = true) ∧
        (inX = false → s.cfg.flagOverwrite = true → s'.fpexc.getLsbD n = false) ∧
        (inX = false → s.cfg.flagOverwrite = false → s'.fpexc.getLsbD n = s.fpexc.getLsbD n)) ∧
      s'.fpexc &&& ~~~0x2400009F#32 = s.fpexc &&& ~~~0x2400009F#32 ∧
      s'.outcome = some (.fpSyncException (.trapped X hd hf)) ∧ s'.x = s.x ∧ s'.pc = s.pc ∧ s'.inputs = rest

/-- R74, `ShortVector`: DEX becomes 1, TFV becomes 0, and no other bit of `S` changes. -/
def Obligations.ShortVectorExceptionIsRecorded : Prop :=
  ∀ (s : State) (by_ : ShortVectorInstr) (rest : List Input), s.inputs = .fpException (.shortVector by_) :: rest →
    s.outcome = none → s.env.executingCp10or11 = true → s.cfg.lenStrideRaz = false →
    (s.env.fpscrStrideNonzero = true ∨ s.env.fpscrLenNonzero = true) →
    ∃ s', step s = .next s' ∧ s'.fpexc.getLsbD 29 = true ∧ s'.fpexc.getLsbD 26 = false ∧
      s'.fpexc &&& ~~~0x24000000#32 = s.fpexc &&& ~~~0x24000000#32 ∧
      s'.outcome = some (.fpSyncException (.shortVector by_)) ∧ s'.x = s.x ∧ s'.pc = s.pc

/-- R75: an exception from an unallocated encoding of the CP10/CP11 space writes DEX to 0 under P_DEX_CLEAR_ON_UNALLOC and
changes nothing else in `S`; otherwise `S` is unchanged. So it is where DEX is RES0 as well (entry 13). -/
def Obligations.UnallocatedExceptionIsRecorded : Prop :=
  ∀ (s : State) (rest : List Input), s.inputs = .unallocated :: rest → s.outcome = none → s.env.executingCp10or11 = true →
    ∃ s', step s = .next s' ∧ s'.fpexc &&& ~~~0x20000000#32 = s.fpexc &&& ~~~0x20000000#32 ∧
      (s.cfg.dexClearOnUnalloc = true → s'.fpexc.getLsbD 29 = false) ∧
      (s.cfg.dexClearOnUnalloc = false → s'.fpexc = s.fpexc) ∧
      s'.outcome = some .unallocatedCp10or11 ∧ s'.x = s.x ∧ s'.pc = s.pc

/-- R74, R75: an event that cannot arise has no meaning: no exception at all, one whose trapping is not implemented or whose
FPSCR enable is 0, Input Denormal with FPSCR.FZ 0, Underflow against FZ or FZ16, a short vector with Len and Stride RAZ or
both zero, or an instruction outside the CP10/CP11 space, allocated or not. That such an event is refused is the model's
choice (entry 12). -/
def Obligations.ImpossibleEventsAreRefused : Prop :=
  (∀ (s : State) (rest : List Input), s.inputs = .unallocated :: rest → s.outcome = none → s.env.executingCp10or11 = false →
    step s = .refused .impossibleInput) ∧
  ∀ (s : State) (cause : FPCause) (rest : List Input), s.inputs = .fpException cause :: rest → s.outcome = none →
    (s.env.executingCp10or11 = false ∨
     (∃ b, cause = .shortVector b ∧ s.cfg.lenStrideRaz = true) ∨
     (∃ b, cause = .shortVector b ∧ s.env.fpscrStrideNonzero = false ∧ s.env.fpscrLenNonzero = false) ∨
     (∃ X hd hf, cause = .trapped X hd hf ∧
       (X = ⟨false, false, false, false, false, false⟩ ∨
        (X.id = true ∧ (s.cfg.trapIde = false ∨ s.env.fpscrIde = 0#1 ∨ s.env.fpscrFz = 0#1 ∨
          (hf = true ∧ s.env.fpscrFz16 = 1#1))) ∨
        (X.ix = true ∧ (s.cfg.trapIxe = false ∨ s.env.fpscrIxe = 0#1)) ∨
        (X.uf = true ∧ (s.cfg.trapUfe = false ∨ s.env.fpscrUfe = 0#1 ∨ (hd = true ∧ s.env.fpscrFz16 = 1#1) ∨
          (hd = false ∧ s.env.fpscrFz = 1#1))) ∨
        (X.of = true ∧ (s.cfg.trapOfe = false ∨ s.env.fpscrOfe = 0#1)) ∨
        (X.dz = true ∧ (s.cfg.trapDze = false ∨ s.env.fpscrDze = 0#1)) ∨
        (X.io = true ∧ (s.cfg.trapIoe = false ∨ s.env.fpscrIoe = 0#1))))) →
    step s = .refused .impossibleInput

/-- R80: a second record made before the handler has read FPEXC merges into the first: DEX stays 1, TFV takes the second
event's value, and each flag is the union of both, or the second alone under P_FLAG_OVERWRITE. -/
def Obligations.SecondRecordMergesIntoTheFirst : Prop :=
  ∀ (c : Config) (X Y : ExcSet) (S : Word) (b : ShortVectorInstr) (h1 h2 h3 h4 : Bool),
    (recordFP c (.trapped Y h1 h2) (recordFP c (.trapped X h3 h4) S)).getLsbD 29 = true ∧
    (recordFP c (.trapped Y h1 h2) (recordFP c (.trapped X h3 h4) S)).getLsbD 26 = true ∧
    (c.flagOverwrite = true → recordFP c (.trapped Y h1 h2) (recordFP c (.trapped X h3 h4) S) = recordFP c (.trapped Y h1 h2) S) ∧
    (c.flagOverwrite = false → recordFP c (.trapped Y h1 h2) (recordFP c (.trapped X h3 h4) S) =
      recordFP c (.trapped ⟨X.id || Y.id, X.ix || Y.ix, X.uf || Y.uf, X.of || Y.of, X.dz || Y.dz, X.io || Y.io⟩ h1 h2) S) ∧
    (recordFP c (.shortVector b) (recordFP c (.trapped X h3 h4) S)).getLsbD 29 = true ∧
    (recordFP c (.shortVector b) (recordFP c (.trapped X h3 h4) S)).getLsbD 26 = false

/-- R74 with R76 and R77: whatever is drawn, one read after a record shows a handler exactly the cause that was recorded, for
every cause that can arise, provided the handler duty was met before (or P_FLAG_OVERWRITE holds); and an unallocated encoding
where DEX was 0. Under P_DEX_RES0 every read shows the first row of R77, with a TFV that is RAO/WI none shows the middle row, and
with one that is RAZ/WI none the last. -/
def Obligations.HandlerDecodesTheRecordedCause : Prop :=
  ∀ (c : Config) (e : Env) (S u : Word),
    (∀ X hd hf, fpCausePossible c e (.trapped X hd hf) = true →
      (S &&& mFlags &&& wMask c = 0x00000000#32 ∨ c.flagOverwrite = true) →
      causeOfRead c (readFPEXC c (recordFP c (.trapped X hd hf) S) u) = .trapped X) ∧
    (∀ b, fpCausePossible c e (.shortVector b) = true →
      causeOfRead c (readFPEXC c (recordFP c (.shortVector b) S) u) = .shortVector) ∧
    (S.getLsbD 29 = false → causeOfRead c (readFPEXC c (recordUnallocated c S) u) = .unallocated) ∧
    (dexRes0 c = true → causeOfRead c (readFPEXC c S u) = .unallocated) ∧
    (tfvKind c = .raoWi → causeOfRead c (readFPEXC c S u) ≠ .shortVector) ∧
    (tfvKind c = .razWi → ∀ X, causeOfRead c (readFPEXC c S u) ≠ .trapped X)

/-- R76: a completed VMSR whose value has 0 in bit 29 and in the six flag bits meets the duty of the handler, and keeps EN as
wanted, wherever DEX is not RES0. -/
def Obligations.ClearingWriteMeetsTheHandlerDuty : Prop :=
  ∀ (i : Instr) (s s' : State) (v : Word), i.isRead = false → conditionHolds i s.env = true → accessCheck s.cfg s.env = .ok →
    dexRes0 s.cfg = false → s.x[i.rt.toNat]? = some v → v.getLsbD 29 = false → v &&& 0x0000009F#32 = 0x00000000#32 →
    exec i s = .next s' → handlerDuty s' = true ∧ s'.fpexc.getLsbD 30 = v.getLsbD 30

/-! EN and its gate. -/

/-- R64 and R65: the Effective value of EN at EL0 is 1 when EL1 is using AArch64, and when EL2 is using AArch64 and enabled
with TGE 1 and RW 1; with RW 0 it is 1 or the bit written, by P_EN_EL0_TGE_RW0. -/
def Obligations.EffectiveEnAtEL0 : Prop :=
  ∀ (c : Config) (e : Env) (en : Bool), e.el = .el0 →
    (e.el1UsingAArch64 = true → effectiveEN c e en = true) ∧
    (e.el2UsingAArch64 = true → e.el2Enabled = true → e.hcrEl2Tge = 1#1 → e.hcrEl2Rw = 1#1 → effectiveEN c e en = true) ∧
    (e.el1UsingAArch64 = false → e.el2UsingAArch64 = true → e.el2Enabled = true → e.hcrEl2Tge = 1#1 → e.hcrEl2Rw = 0#1 →
      (c.enEl0TgeRw0 = .one → effectiveEN c e en = true) ∧ (c.enEl0TgeRw0 = .written → effectiveEN c e en = en))

/-- R66: everywhere the Note does not name, the Effective value of EN is the bit itself. -/
def Obligations.EffectiveEnElsewhereIsTheBit : Prop :=
  ∀ (c : Config) (e : Env) (en : Bool),
    (e.el ≠ .el0 ∨ (e.el1UsingAArch64 = false ∧
      (e.el2UsingAArch64 = false ∨ e.el2Enabled = false ∨ e.hcrEl2Tge = 0#1))) → effectiveEN c e en = en

/-- R60 and R62: with the Effective EN at 0, an instruction that accesses the FPSCR or any of Q0-Q15, D0-D31, S0-S31 raises
Undefined at every Exception level; one whose accesses are all in R62's list does not. That `S`, x and pc are left alone and
that the outcome stands in a field are choices: decision D10 of the spec, marked unsafe (entry 25), and the model's (entries
10, 16). -/
def Obligations.ClosedGateIsUndefinedAtAllLevels : Prop :=
  ∀ (s : State) (l : List FPAccess) (rest : List Input), s.inputs = .gatedAccess l :: rest → s.outcome = none →
    effectiveEN s.cfg s.env (enSeen s) = false →
    ∃ s', step s = .next s' ∧ s'.fpexc = s.fpexc ∧ s'.x = s.x ∧ s'.pc = s.pc ∧
      ((∃ a ∈ l, a = .other .fpscr ∨ a = .vmrs .fpscr ∨ a = .vmsr .fpscr ∨
          (∃ n, a = .other (.q n)) ∨ (∃ n, a = .other (.d n)) ∨ (∃ n, a = .other (.s n))) →
        s'.outcome = some (.undefined .enGate)) ∧
      ((∀ a ∈ l, a = .vmsr .fpexc ∨ a = .vmsr .fpsid ∨ a = .vmrs .fpexc ∨ a = .vmrs .fpsid ∨ a = .vmrs .mvfr0 ∨
          a = .vmrs .mvfr1 ∨ a = .vmrs .mvfr2) →
        s'.outcome = none)

/-- R61: with the Effective EN at 1 the gate raises nothing, whatever is accessed. That `S`, x and pc are unchanged then is
the model's choice: the gated access has no effect of its own (entry 16). -/
def Obligations.OpenGateRaisesNothing : Prop :=
  ∀ (s : State) (l : List FPAccess) (rest : List Input), s.inputs = .gatedAccess l :: rest → s.outcome = none →
    effectiveEN s.cfg s.env (enSeen s) = true →
    ∃ s', step s = .next s' ∧ s'.outcome = none ∧ s'.fpexc = s.fpexc ∧ s'.x = s.x ∧ s'.pc = s.pc ∧ s'.inputs = rest

/-- R43 (the spec's own decision, D13): a gated access sees `S[30]` under IMMEDIATE and after a synchronisation event. Under
DEFERRED, after a VMSR that changes EN it sees the old or the new bit, whichever the draw picks (entry 14), whatever went
before; after one that leaves EN as it is, what is still unsynchronised stays so. -/
def Obligations.GatedAccessSeesOldOrNewEn : Prop :=
  (∀ s : State, s.cfg.enSync = .immediate → enSeen s = s.fpexc.getLsbD 30) ∧
  (∀ (s s' : State) (rest : List Input), s.inputs = .synchronise :: rest → step s = .next s' →
    enSeen s' = s.fpexc.getLsbD 30 ∧ s'.fpexc = s.fpexc) ∧
  (∀ (i : Instr) (s s' : State) (v : Word), i.isRead = false → conditionHolds i s.env = true →
    accessCheck s.cfg s.env = .ok → s.x[i.rt.toNat]? = some v → s.cfg.enSync = .deferred → exec i s = .next s' →
    (v.getLsbD 30 ≠ s.fpexc.getLsbD 30 →
      enSeen s' = if (Config.freeWord s'.draws).getLsbD 0 then s.fpexc.getLsbD 30 else v.getLsbD 30) ∧
    (v.getLsbD 30 = s.fpexc.getLsbD 30 →
      (s.enOld = none → enSeen s' = v.getLsbD 30) ∧
      (∀ old, s.enOld = some old →
        enSeen s' = if (Config.freeWord s'.draws).getLsbD 0 then old else v.getLsbD 30)))

/-- R85 with R60 and R87: after a Warm reset, whatever is drawn, an access to the FPSCR at EL1, EL2 or EL3 is Undefined; x,
pc and E are those the environment supplies (entry 15). -/
def Obligations.WarmResetClosesTheGate : Prop :=
  ∀ (s : State) (x : Vector Word 15) (pc : Word) (e : Env) (rest : List Input),
    s.inputs = .warmReset x pc e :: .gatedAccess [.other .fpscr] :: rest → e.el ≠ .el0 →
    ∃ s', Sys2Proof.core.run 2 s = .next s' ∧ s'.outcome = some (.undefined .enGate) ∧ s'.fpexc.getLsbD 30 = false ∧
      s'.x = x ∧ s'.pc = pc ∧ s'.env = e

/-- R87 with R61: a completed VMSR with bit 30 set, then the synchronisation event, opens the gate at every level: whatever
`E`, and so whatever Exception level, the environment supplies after it, an access to the FPSCR or any SIMD register raises
nothing by this control, which is all that the gated access asks (entry 16). -/
def Obligations.EnablingWriteOpensTheGate : Prop :=
  ∀ (i : Instr) (s s1 : State) (v : Word) (e : Env) (l : List FPAccess), i.isRead = false → conditionHolds i s.env = true →
    accessCheck s.cfg s.env = .ok → s.x[i.rt.toNat]? = some v → v.getLsbD 30 = true → s.outcome = none → exec i s = .next s1 →
    ∃ s2, Sys2Proof.core.run 3 { s1 with inputs := [.synchronise, .environment e, .gatedAccess l] } = .next s2 ∧
      s2.env = e ∧ s2.outcome = none ∧ s2.fpexc.getLsbD 30 = true

/-- R85: a Warm reset makes `S` one draw with EN at 0, for whatever is drawn. That x, pc and E are supplied with it and that
a raised outcome and an unsynchronised EN are gone after it are the model's choice (entries 14, 15). -/
def Obligations.WarmResetDrawsAllButEn : Prop :=
  ∀ (s : State) (x : Vector Word 15) (pc : Word) (e : Env) (rest : List Input), s.inputs = .warmReset x pc e :: rest →
    step s = .next { s with
      fpexc := Config.freeWord s.draws &&& 0xBFFFFFFF#32
      x := x
      pc := pc
      env := e
      enOld := none
      outcome := none
      inputs := rest
      draws := s.draws + 1 }

/-- What reset leaves (R12, R85): EN is 0, so the register reads 0 in bits 31 and 30 for every draw. Nothing is queued, no
outcome is raised and no program is placed (entries 5, 11). -/
def Obligations.ResetStateHasEnClear : Prop :=
  State.reset.fpexc.getLsbD 30 = false ∧
  (∀ u, (readFPEXC State.reset.cfg State.reset.fpexc u).getLsbD 31 = false ∧
    (readFPEXC State.reset.cfg State.reset.fpexc u).getLsbD 30 = false) ∧
  State.reset.inputs = [] ∧ State.reset.outcome = none ∧ (∀ a, progRead State.reset.program a = none)

/-- R63: FPEXC.EN is always one of the controls; HCPTR.TCP10 or CPTR_EL2.TFP, and NSACR.cp10 or CPTR_EL3.TFP, only in
Non-secure state; the ASEDIS and TASE controls only for Advanced SIMD instructions. -/
def Obligations.ControlsThatMayDisableAnInstruction : Prop :=
  ∀ (e : Env) (advSimd : Bool),
    .fpexcEn ∈ controlsOf e advSimd ∧ .cpacrCp10 ∈ controlsOf e advSimd ∧
    (.cpacrEl1Fpen ∈ controlsOf e advSimd ↔ e.el = .el0) ∧
    (.hcptrTcp10 ∈ controlsOf e advSimd ↔ e.nonSecure = true ∧ e.el2UsingAArch64 = false) ∧
    (.cptrEl2Tfp ∈ controlsOf e advSimd ↔ e.nonSecure = true ∧ e.el2UsingAArch64 = true) ∧
    (.nsacrCp10 ∈ controlsOf e advSimd ↔ e.nonSecure = true ∧ e.el3UsingAArch64 = false) ∧
    (.cptrEl3Tfp ∈ controlsOf e advSimd ↔ e.nonSecure = true ∧ e.el3UsingAArch64 = true) ∧
    (.cpacrAsedis ∈ controlsOf e advSimd ↔ advSimd = true) ∧
    (.hcptrTase ∈ controlsOf e advSimd ↔ advSimd = true ∧ e.nonSecure = true) ∧
    (.nsacrNsasedis ∈ controlsOf e advSimd ↔ advSimd = true ∧ e.nonSecure = true)

/-! The environment. -/

/-- R91 c: the environment gives `E` any value and changes nothing else. R79, R38: the enclosing model continues from a
raised outcome with the x, pc and E it supplies and leaves `S` alone; a write through FPEXC32_EL2 makes `S` any value
(entries 10, 24). -/
def Obligations.EnclosingModelTakesOver : Prop :=
  ∀ (s : State) (rest : List Input),
    (∀ e, s.inputs = .environment e :: rest → step s = .next { s with env := e, inputs := rest }) ∧
    (∀ x pc e, s.inputs = .resume x pc e :: rest →
      step s = .next { s with x := x, pc := pc, env := e, outcome := none, inputs := rest }) ∧
    (∀ v, s.inputs = .aarch64Write v :: rest → ∃ s', step s = .next s' ∧ s'.fpexc = v ∧ s'.x = s.x ∧ s'.pc = s.pc ∧
      s'.outcome = s.outcome)

/-- R74: no instruction of the same processing element runs between a record and its exception: once an outcome is raised, the
turn of an instruction of the program, of the floating-point unit or of one the gate is asked about faults until the enclosing
model takes over (entry 10). -/
def Obligations.NoInstructionRunsAfterAnOutcome : Prop :=
  ∀ (s : State) (i : Input) (rest : List Input) (o : Raised), s.inputs = i :: rest → s.outcome = some o →
    ((∃ p, i = .instruction p) ∨ (∃ c, i = .fpException c) ∨ i = .unallocated ∨ (∃ l, i = .gatedAccess l)) →
    step s = .fault (.runEnded o)

/-! The whole machine. -/

/-- R38: "Exactly four things change `S`": a completed VMSR, the hardware recording of an exception, a Warm reset, and a
write through FPEXC32_EL2. -/
def Obligations.OnlyFourThingsChangeFPEXC : Prop :=
  ∀ s s' : State, step s = .next s' → s'.fpexc ≠ s.fpexc →
    (∃ rest, (∃ v, s.inputs = .aarch64Write v :: rest) ∨ (∃ c, s.inputs = .fpException c :: rest) ∨
      s.inputs = .unallocated :: rest ∨ (∃ x pc e, s.inputs = .warmReset x pc e :: rest)) ∨
    (∃ t, instructionRunsIn s t ∧ accessCheck s.cfg s.env = .ok ∧
      ∃ w i v, progRead s.program s.pc.toNat = some w ∧ decode s.env.iset w = .ok i ∧ i.isRead = false ∧
        conditionHolds i t.env = true ∧ s.x[i.rt.toNat]? = some v ∧ s'.fpexc = writeFPEXC s.cfg s.fpexc v)

/-- A general-purpose register changes only by a completed VMRS to it, or where the enclosing model or a Warm reset supplies
new ones (R35, R55). -/
def Obligations.OnlyVmrsChangesARegister : Prop :=
  ∀ (s s' : State) (r : Nat), step s = .next s' → s'.x[r]? ≠ s.x[r]? →
    (∃ x pc e rest, s.inputs = .resume x pc e :: rest ∨ s.inputs = .warmReset x pc e :: rest) ∨
    (∃ t, instructionRunsIn s t ∧ accessCheck s.cfg s.env = .ok ∧
      ∃ w i, progRead s.program s.pc.toNat = some w ∧ decode s.env.iset w = .ok i ∧ i.isRead = true ∧ i.rt.toNat = r ∧
        conditionHolds i t.env = true)

/-- R34: no rule writes `E`, and no step writes `P` (R6): `P` never changes; `E` changes only by an input of the environment,
and but for its `ConditionPassed`, which an instruction's turn supplies (R51, entry 11), no instruction's step changes it. -/
def Obligations.ConfigurationAndEnvironmentAreInputs : Prop :=
  ∀ s s' : State, step s = .next s' → s'.cfg = s.cfg ∧
    (s'.env ≠ s.env → ∃ i rest, s.inputs = i :: rest ∧
      ((∃ e, i = .environment e) ∨ (∃ x pc e, i = .resume x pc e) ∨ (∃ x pc e, i = .warmReset x pc e) ∨
       (∃ passed, i = .instruction passed ∧ s'.env = { s.env with conditionPassed := passed })))

/-- Every step keeps the invariant: the program text stays in its canonical form, `P` stays within R6's constraint, and under
IMMEDIATE no old EN is ever kept (R43). -/
def Obligations.EveryStepKeepsTheInvariant : Prop :=
  ∀ s s' : State, inv s = true → step s = .next s' → inv s' = true

/-- The invariant holds after reset. -/
def Obligations.ResetMeetsTheInvariant : Prop := inv State.reset = true

/-- R59 d, R78: "unprivileged code can neither read nor write FPEXC": no run of any length at EL0, where only instructions take
turns, changes `S` or a register, whatever the conditions; and where every condition holds no such run is good and final (R91,
program P3; entry 29). -/
def Obligations.UnprivilegedRunsNeverTouchFPEXC : Prop :=
  ∀ (k : Nat) (s s' : State), s.env.el = .el0 →
    ((∀ i ∈ s.inputs, ∃ passed, i = .instruction passed) →
      Sys2Proof.core.run k s = .next s' → s'.fpexc = s.fpexc ∧ s'.x = s.x ∧ s'.env.el = .el0) ∧
    (s.env.conditionPassed = true → (∀ i ∈ s.inputs, i = .instruction true) → ¬ goodRun k s s')

/-- R31, R38, R74, R75 over whole runs: without a write through FPEXC32_EL2 and without a Warm reset, no run of any length changes
EX or a hardwired reserved bit other than DEX. Bit 29 is left out even where it is RES0 and hardwired (R32), since an exception
from an unallocated encoding may clear its storage (R75, entry 13). -/
def Obligations.HardwiredBitsNeverChangeInARun : Prop :=
  ∀ (k : Nat) (s s' : State), noAArch64WriteToFPEXC s = true → noWarmReset s = true →
    Sys2Proof.core.run k s = .next s' → s'.fpexc &&& fixedBits s.cfg = s.fpexc &&& fixedBits s.cfg

/-! The permission check, in both directions. -/

/-- Exactly when AccessCheck answers OK (R57 lines 1.7, 2.4, 3.2), whatever features are implemented: at EL1 where neither
the EL3 control, nor the NSACR term, nor `CPACR.cp10`, nor a control of EL2 objects; at EL2 where neither the EL3 control nor
HCPTR or the NSACR term objects; at EL3 where `CPACR.cp10` does not. -/
def Obligations.AccessCheckAllowsExactly : Prop :=
  ∀ (c : Config) (e : Env), accessCheck c e = .ok ↔ c.featAA32EL1 = true ∧
    ((e.el = .el1 ∧ ¬ el3Objects c e ∧ ¬ nsacrObjects c e ∧ e.cpacrCp10 ≠ 0b00#2 ∧ ¬ el2A64Objects c e ∧
       ¬ hypObjectsAtEL1 c e) ∨
     (e.el = .el2 ∧ ¬ el3Objects c e ∧ ¬ hypObjectsAtEL2 c e) ∨
     (e.el = .el3 ∧ e.cpacrCp10 ≠ 0b00#2))

/-- Exactly when each line of AccessCheck that says UNDEFINED is the one that answers (R57 lines A, B, 1.1, 1.2, 1.6a, 2.1,
2.3a, 3.1; R70), and that no other line does. -/
def Obligations.UndefinedLinesAndTheirConditions : Prop :=
  ∀ (c : Config) (e : Env),
    (accessCheck c e = .undef .lineA ↔ c.featAA32EL1 = false) ∧
    (accessCheck c e = .undef .lineB ↔ c.featAA32EL1 = true ∧ e.el = .el0) ∧
    (accessCheck c e = .undef .line11 ↔ c.featAA32EL1 = true ∧ e.el = .el1 ∧ e.el3SDDUndefPriority = true ∧ el3Objects c e) ∧
    (accessCheck c e = .undef .line12 ↔ c.featAA32EL1 = true ∧ e.el = .el1 ∧
      ¬ (e.el3SDDUndefPriority = true ∧ el3Objects c e) ∧ (nsacrObjects c e ∨ e.cpacrCp10 = 0b00#2)) ∧
    (accessCheck c e = .undef .line16a ↔ c.featAA32EL1 = true ∧ e.el = .el1 ∧ el3Objects c e ∧
      e.el3SDDUndefPriority = false ∧ e.el3SDDUndef = true ∧ ¬ nsacrObjects c e ∧ e.cpacrCp10 ≠ 0b00#2 ∧
      ¬ el2A64Objects c e ∧ ¬ hypObjectsAtEL1 c e) ∧
    (accessCheck c e = .undef .line21 ↔ c.featAA32EL1 = true ∧ e.el = .el2 ∧ e.el3SDDUndefPriority = true ∧ el3Objects c e) ∧
    (accessCheck c e = .undef .line23a ↔ c.featAA32EL1 = true ∧ e.el = .el2 ∧ el3Objects c e ∧
      e.el3SDDUndefPriority = false ∧ e.el3SDDUndef = true ∧ ¬ hypObjectsAtEL2 c e) ∧
    (accessCheck c e = .undef .line31 ↔ c.featAA32EL1 = true ∧ e.el = .el3 ∧ e.cpacrCp10 = 0b00#2) ∧
    accessCheck c e ≠ .undef .enGate
end

