-- ==== Sys2Proof/Laws/AccessCheck.lean ====
section
/-! SUPPORT. AccessCheck (R57): the tests of its lines are the controls that object, and what it answers at each level. -/

namespace Sys2Proof.Machine

variable (c : Config) (e : Env)

/-- The check asks nothing of the condition. -/
@[simp] theorem accessCheck_conditionPassed (p : Bool) :
    accessCheck c { e with conditionPassed := p } = accessCheck c e := rfl

theorem nsTerm_iff : nsTerm c e = true ↔ nsacrObjects c e := by simp [nsTerm, nsacrObjects, and_assoc]

theorem el3Trap_iff : el3Trap c e = true ↔ el3Objects c e := by simp [el3Trap, el3Objects, and_assoc]

theorem el3UndefFirst_iff : el3UndefFirst c e = true ↔ e.el3SDDUndefPriority = true ∧ el3Objects c e := by
  simp only [el3UndefFirst, el3Objects, Bool.and_eq_true, beq_iff_eq, Bool.not_eq_true']
  tauto

/-- The pattern `'x0'` (R7). -/
theorem fpen_x0_iff (v : BitVec 2) : v.getLsbD 0 = false ↔ v = 0b00#2 ∨ v = 0b10#2 := by revert v; decide

theorem el2A64_iff : el2A64Objects c e ↔
    (e.el2Enabled && c.featAA64EL2 && !e.el2UsingAArch32 && !e.el2IsInHost && e.cptrEl2Tfp == 1#1) = true ∨
    (e.el2IsInHost && c.featAA64EL2 && !e.el2UsingAArch32 && !e.cptrEl2Fpen.getLsbD 0) = true := by
  simp only [el2A64Objects, Bool.and_eq_true, beq_iff_eq, Bool.not_eq_true', fpen_x0_iff]
  tauto

theorem hypAtEL1_iff (h : ¬ nsacrObjects c e) : hypObjectsAtEL1 c e ↔
    (e.el2Enabled && c.featAA32EL2 && e.el2UsingAArch32 && (nsTerm c e || e.hcptrTcp10 == 1#1)) = true := by
  simp only [hypObjectsAtEL1, Bool.and_eq_true, Bool.or_eq_true, nsTerm_iff, beq_iff_eq]
  tauto

theorem hypAtEL2_iff : hypObjectsAtEL2 c e ↔ (e.el2Enabled && (nsTerm c e || e.hcptrTcp10 == 1#1)) = true := by
  simp only [hypObjectsAtEL2, Bool.and_eq_true, Bool.or_eq_true, nsTerm_iff, beq_iff_eq]

open Classical in
/-- Lines 1.1 to 1.7 in terms of the controls. -/
theorem accessCheckEL1_eq : accessCheckEL1 c e =
    if e.el3SDDUndefPriority = true ∧ el3Objects c e then .undef .line11
    else if nsacrObjects c e ∨ e.cpacrCp10 = 0b00#2 then .undef .line12
    else if el2A64Objects c e then .trapA64 .el2 0x07
    else if hypObjectsAtEL1 c e then .hypTrap 0x08
    else if el3Objects c e then if e.el3SDDUndef = true then .undef .line16a else .trapA64 .el3 0x07
    else .ok := by
  unfold accessCheckEL1
  simp only [el3UndefFirst_iff, el3Trap_iff, Bool.or_eq_true, nsTerm_iff, beq_iff_eq]
  by_cases h1 : e.el3SDDUndefPriority = true ∧ el3Objects c e
  · rw [if_pos h1, if_pos h1]
  by_cases h2 : nsacrObjects c e ∨ e.cpacrCp10 = 0b00#2
  · rw [if_neg h1, if_neg h1, if_pos h2, if_pos h2]
  rw [if_neg h1, if_neg h1, if_neg h2, if_neg h2]
  simp only [el2A64_iff, hypAtEL1_iff c e (not_or.1 h2).1]
  generalize (e.el2Enabled && c.featAA64EL2 && !e.el2UsingAArch32 && !e.el2IsInHost && e.cptrEl2Tfp == 1#1) = b3
  generalize (e.el2IsInHost && c.featAA64EL2 && !e.el2UsingAArch32 && !e.cptrEl2Fpen.getLsbD 0) = b4
  cases b3 <;> cases b4 <;> simp

open Classical in
/-- Lines 2.1 to 2.4 in terms of the controls. -/
theorem accessCheckEL2_eq : accessCheckEL2 c e =
    if e.el3SDDUndefPriority = true ∧ el3Objects c e then .undef .line21
    else if hypObjectsAtEL2 c e then .hypTrap 0x00
    else if el3Objects c e then if e.el3SDDUndef = true then .undef .line23a else .trapA64 .el3 0x07
    else .ok := by
  unfold accessCheckEL2
  simp only [el3UndefFirst_iff, el3Trap_iff, hypAtEL2_iff]

end Sys2Proof.Machine
end

