-- ==== Sys2Proof/Laws/Bits.lean ====
section
/-! SUPPORT. Bit by bit: the read view, the write merge and the hardware records. -/

namespace Sys2Proof.Machine

theorem readFPEXC_bit (c : Config) (S u : Word) (i : Nat) :
    (readFPEXC c S u).getLsbD i = (decide (i < 32) && readBit c S u i) := by
  unfold readFPEXC
  rw [BitVec.getLsbD_ofFnLE]
  split <;> simp_all

theorem writeFPEXC_bit (c : Config) (S v : Word) (i : Nat) :
    (writeFPEXC c S v).getLsbD i = if (wMask c).getLsbD i then v.getLsbD i else S.getLsbD i := by
  by_cases h : i < 32
  · simp only [writeFPEXC, BitVec.getLsbD_or, BitVec.getLsbD_and, BitVec.getLsbD_not, h]
    cases (wMask c).getLsbD i <;> simp
  · have hz : ∀ w : Word, w.getLsbD i = false := fun w => BitVec.getLsbD_of_ge w i (by omega)
    simp [hz]

theorem maskIf_bit (b : Bool) (m : Word) (i : Nat) : (maskIf b m).getLsbD i = (b && m.getLsbD i) := by
  cases b <;> simp [maskIf]

theorem recordShortVector_bit (S : Word) (i : Nat) :
    (recordShortVector S).getLsbD i = ((S.getLsbD i || mDEX.getLsbD i) && (decide (i < 32) && !mTFV.getLsbD i)) := by
  simp [recordShortVector]

/-- Bit `n` of the flags of `X` (R10, R74). -/
theorem excMask_bit (X : ExcSet) (n : Nat) : (excMask X).getLsbD n =
    ((n == 7 && X.id) || (n == 4 && X.ix) || (n == 3 && X.uf) || (n == 2 && X.of) || (n == 1 && X.dz) || (n == 0 && X.io)) := by
  by_cases h : n < 32
  · interval_cases n <;>
      simp only [excMask, BitVec.getLsbD_or, maskIf_bit, mIDF, mIXF, mUFF, mOFF, mDZF, mIOF] <;> simp
  · have hz : ∀ w : Word, w.getLsbD n = false := fun w => BitVec.getLsbD_of_ge w n (by omega)
    rw [hz]; symm; simp; omega

/-- The record of trapped exceptions, bit by bit (R74): DEX, TFV, the flags, and the rest of `S`. -/
theorem recordTrapped_bit (c : Config) (X : ExcSet) (S : Word) (n : Nat) (h : n < 32) :
    (recordTrapped c X S).getLsbD n =
      ((S.getLsbD n && !(c.flagOverwrite && (n == 7 || decide (n ≤ 4)))) || n == 29 || n == 26 || (excMask X).getLsbD n) := by
  have h0 : (recordTrapped c X S).getLsbD n =
      ((S.getLsbD n && !(c.flagOverwrite && mFlags.getLsbD n)) || mDEX.getLsbD n || mTFV.getLsbD n
        || (excMask X).getLsbD n) := by
    cases hf : c.flagOverwrite <;> simp [recordTrapped, hf, h]
  rw [h0]
  congr 1
  interval_cases n <;> simp [mFlags, mDEX, mTFV, mIDF, mIXF, mUFF, mOFF, mDZF, mIOF]

theorem recordUnallocated_bit (c : Config) (S : Word) (i : Nat) (h : i < 32) :
    (recordUnallocated c S).getLsbD i = (S.getLsbD i && !(c.dexClearOnUnalloc && mDEX.getLsbD i)) := by
  cases hd : c.dexClearOnUnalloc <;> simp [recordUnallocated, hd, h]

theorem readDex_bit (c : Config) (S u : Word) : (readFPEXC c S u).getLsbD 29 = readDex c S := by rw [readFPEXC_bit]; rfl

theorem readTfv_bit (c : Config) (S u : Word) : (readFPEXC c S u).getLsbD 26 = readTfv c S u := by rw [readFPEXC_bit]; rfl

/-- The bits of `WMASK(P)` one by one (R31). -/
def wMaskBit (c : Config) (i : Nat) : Bool :=
  if i = 30 then true
  else if i = 29 then !dexRes0 c || c.resStorage.getLsbD 29
  else if mReserved.getLsbD i then c.resStorage.getLsbD i
  else if i = 7 then c.trapIde
  else if i = 4 then c.trapIxe
  else if i = 3 then c.trapUfe
  else if i = 2 then c.trapOfe
  else if i = 1 then c.trapDze
  else if i = 0 then c.trapIoe
  else false

theorem wMask_bit (c : Config) (i : Nat) : (wMask c).getLsbD i = wMaskBit c i := by
  by_cases h : i < 32
  · cases hd : dexRes0 c <;> interval_cases i <;>
      simp only [wMask, wMaskBit, hd, BitVec.getLsbD_or, BitVec.getLsbD_and, maskIf_bit, mEN, mDEX, mReserved, mFP2V, mVV,
        mRes25to11, mVECITR, mRes6to5, mIDF, mIXF, mUFF, mOFF, mDZF, mIOF, if_true, if_false, Bool.false_eq_true] <;>
      simp
  · have h1 : (wMask c).getLsbD i = false := BitVec.getLsbD_of_ge _ i (by omega)
    have h2 : mReserved.getLsbD i = false := BitVec.getLsbD_of_ge _ i (by omega)
    rw [h1]
    unfold wMaskBit
    simp only [h2]
    split_ifs <;> first | omega | contradiction | rfl

/-- WMASK never holds EX or TFV (R31). -/
theorem wMask_fixed (c : Config) : (wMask c).getLsbD 31 = false ∧ (wMask c).getLsbD 26 = false := by
  rw [wMask_bit, wMask_bit]
  constructor <;> rfl

/-- `n` is the place of a flag bit and `impl` its `P_TRAP_...` parameter (R22, R24 to R28). -/
def isFlagBit (c : Config) (n : Nat) (impl : Bool) : Prop :=
  (n = 7 ∧ impl = c.trapIde) ∨ (n = 4 ∧ impl = c.trapIxe) ∨ (n = 3 ∧ impl = c.trapUfe) ∨ (n = 2 ∧ impl = c.trapOfe) ∨
    (n = 1 ∧ impl = c.trapDze) ∨ (n = 0 ∧ impl = c.trapIoe)

/-- A flag bit of a read, and whether WMASK holds it (R30, R31). -/
theorem flagBit_read (c : Config) (S u : Word) (n : Nat) (impl : Bool) (h : isFlagBit c n impl) :
    (readFPEXC c S u).getLsbD n = readFlag c S u n impl ∧ (wMask c).getLsbD n = impl := by
  rw [readFPEXC_bit, wMask_bit]
  rcases h with ⟨rfl, rfl⟩ | ⟨rfl, rfl⟩ | ⟨rfl, rfl⟩ | ⟨rfl, rfl⟩ | ⟨rfl, rfl⟩ | ⟨rfl, rfl⟩ <;> exact ⟨rfl, rfl⟩

theorem trappable_implemented {inX impl : Bool} {enable : BitVec 1} (h : trappable inX impl enable = true) :
    inX = true → impl = true := by
  intro hx
  simp only [trappable, hx, Bool.not_true, Bool.false_or, Bool.and_eq_true] at h
  exact h.1

/-- A cause that can arise names some exception, and only implemented ones (R74). -/
theorem fpCausePossible_trapped (c : Config) (e : Env) (X : ExcSet) (hd hf : Bool)
    (h : fpCausePossible c e (.trapped X hd hf) = true) :
    excNonempty X = true ∧ (X.id = true → c.trapIde = true) ∧ (X.ix = true → c.trapIxe = true) ∧
      (X.uf = true → c.trapUfe = true) ∧ (X.of = true → c.trapOfe = true) ∧ (X.dz = true → c.trapDze = true) ∧
      (X.io = true → c.trapIoe = true) := by
  simp only [fpCausePossible, Bool.and_eq_true] at h
  obtain ⟨-, ⟨⟨⟨⟨⟨⟨⟨⟨h0, h1⟩, h2⟩, h3⟩, h4⟩, h5⟩, h6⟩, -⟩, -⟩⟩ := h
  exact ⟨h0, trappable_implemented h1, trappable_implemented h2, trappable_implemented h3, trappable_implemented h4,
    trappable_implemented h5, trappable_implemented h6⟩

end Sys2Proof.Machine
end

