-- ==== Sys2Proof/Laws/Decode.lean ====
section
/-! SUPPORT. The decoder's field checks, and the word that fields make. -/

namespace Sys2Proof

theorem isVmrsVmsr_iff (w : Word) : isVmrsVmsr w = true ↔ w &&& 0x0FE00F10#32 = 0x0EE00A10#32 := by simp [isVmrsVmsr]

theorem sbzClear_iff (w : Word) : sbzClear w = true ↔ w &&& 0x000000EF#32 = 0#32 := by simp [sbzClear]

/-- What the shared checks have established when they give an instruction (R49, R50, R52). -/
theorem decodeFields_ok (w : Word) (read write : BitVec 4 → Instr) (i : Instr) (h : decodeFields w read write = .ok i) :
    regField w = 8#4 ∧ sbzClear w = true ∧ rtOk (rtField w) = true ∧
      ((directionBit w = true ∧ i = read (rtField w)) ∨ (directionBit w = false ∧ i = write (rtField w))) := by
  unfold decodeFields at h
  split_ifs at h <;> simp_all

/-- A word in the class of R48 is the row its fields make. -/
theorem encodeRow_of_fields (w : Word) (h1 : w &&& 0x0FE00F10#32 = 0x0EE00A10#32) (h2 : regField w = 8#4)
    (h3 : w &&& 0x000000EF#32 = 0#32) (d : BitVec 1) (hd : directionBit w = d.getLsbD 0) :
    encodeRow (condField w) d (rtField w) = w := by
  unfold directionBit at hd
  apply BitVec.eq_of_getLsbD_eq
  intro i hi
  have f1 := congrArg (fun v => BitVec.getLsbD v i) h1
  have f3 := congrArg (fun v => BitVec.getLsbD v i) h3
  have f2 := congrArg (fun v => BitVec.getLsbD v (i - 16)) h2
  clear h1 h2 h3
  simp only [BitVec.getLsbD_and, regField, BitVec.getLsbD_extractLsb'] at f1 f2 f3
  simp only [encodeRow, BitVec.getLsbD_append, condField, rtField, BitVec.getLsbD_extractLsb']
  interval_cases i <;> simp at f1 f2 f3 hd ⊢ <;> simp_all

end Sys2Proof
end

