-- ==== Sys2Proof/Laws/State.lean ====
section
/-! SUPPORT. One lemma per field per update of State. -/

namespace Sys2Proof.Machine

section writeX
variable (t : BitVec 4) (v : Word) (s : State)
@[simp] theorem writeX_cfg : (writeX t v s).cfg = s.cfg := rfl
@[simp] theorem writeX_env : (writeX t v s).env = s.env := rfl
@[simp] theorem writeX_fpexc : (writeX t v s).fpexc = s.fpexc := rfl
@[simp] theorem writeX_x : (writeX t v s).x = s.x.setIfInBounds t.toNat v := rfl
@[simp] theorem writeX_pc : (writeX t v s).pc = s.pc := rfl
@[simp] theorem writeX_enOld : (writeX t v s).enOld = s.enOld := rfl
@[simp] theorem writeX_outcome : (writeX t v s).outcome = s.outcome := rfl
@[simp] theorem writeX_inputs : (writeX t v s).inputs = s.inputs := rfl
@[simp] theorem writeX_program : (writeX t v s).program = s.program := rfl
@[simp] theorem writeX_draws : (writeX t v s).draws = s.draws := rfl
end writeX

section advancePc
variable (s : State)
@[simp] theorem advancePc_cfg : (advancePc s).cfg = s.cfg := rfl
@[simp] theorem advancePc_env : (advancePc s).env = s.env := rfl
@[simp] theorem advancePc_fpexc : (advancePc s).fpexc = s.fpexc := rfl
@[simp] theorem advancePc_x : (advancePc s).x = s.x := rfl
@[simp] theorem advancePc_pc : (advancePc s).pc = s.pc + 4#32 := rfl
@[simp] theorem advancePc_enOld : (advancePc s).enOld = s.enOld := rfl
@[simp] theorem advancePc_outcome : (advancePc s).outcome = s.outcome := rfl
@[simp] theorem advancePc_inputs : (advancePc s).inputs = s.inputs := rfl
@[simp] theorem advancePc_program : (advancePc s).program = s.program := rfl
@[simp] theorem advancePc_draws : (advancePc s).draws = s.draws := rfl
end advancePc

section drawn
variable (s : State)
@[simp] theorem drawn_cfg : (drawn s).cfg = s.cfg := rfl
@[simp] theorem drawn_env : (drawn s).env = s.env := rfl
@[simp] theorem drawn_fpexc : (drawn s).fpexc = s.fpexc := rfl
@[simp] theorem drawn_x : (drawn s).x = s.x := rfl
@[simp] theorem drawn_pc : (drawn s).pc = s.pc := rfl
@[simp] theorem drawn_enOld : (drawn s).enOld = s.enOld := rfl
@[simp] theorem drawn_outcome : (drawn s).outcome = s.outcome := rfl
@[simp] theorem drawn_inputs : (drawn s).inputs = s.inputs := rfl
@[simp] theorem drawn_program : (drawn s).program = s.program := rfl
@[simp] theorem drawn_draws : (drawn s).draws = s.draws + 1 := rfl
end drawn

section raise
variable (o : Raised) (s : State)
@[simp] theorem raise_cfg : (raise o s).cfg = s.cfg := rfl
@[simp] theorem raise_env : (raise o s).env = s.env := rfl
@[simp] theorem raise_fpexc : (raise o s).fpexc = s.fpexc := rfl
@[simp] theorem raise_x : (raise o s).x = s.x := rfl
@[simp] theorem raise_pc : (raise o s).pc = s.pc := rfl
@[simp] theorem raise_enOld : (raise o s).enOld = s.enOld := rfl
@[simp] theorem raise_outcome : (raise o s).outcome = some o := rfl
@[simp] theorem raise_inputs : (raise o s).inputs = s.inputs := rfl
@[simp] theorem raise_program : (raise o s).program = s.program := rfl
@[simp] theorem raise_draws : (raise o s).draws = s.draws := rfl
end raise

section resumeAt
variable (x : Vector Word 15) (pc : Word) (e : Env) (s : State)
@[simp] theorem resumeAt_cfg : (resumeAt x pc e s).cfg = s.cfg := rfl
@[simp] theorem resumeAt_env : (resumeAt x pc e s).env = e := rfl
@[simp] theorem resumeAt_fpexc : (resumeAt x pc e s).fpexc = s.fpexc := rfl
@[simp] theorem resumeAt_x : (resumeAt x pc e s).x = x := rfl
@[simp] theorem resumeAt_pc : (resumeAt x pc e s).pc = pc := rfl
@[simp] theorem resumeAt_enOld : (resumeAt x pc e s).enOld = s.enOld := rfl
@[simp] theorem resumeAt_outcome : (resumeAt x pc e s).outcome = none := rfl
@[simp] theorem resumeAt_inputs : (resumeAt x pc e s).inputs = s.inputs := rfl
@[simp] theorem resumeAt_program : (resumeAt x pc e s).program = s.program := rfl
@[simp] theorem resumeAt_draws : (resumeAt x pc e s).draws = s.draws := rfl
end resumeAt

section noteEnChange
variable (old : Bool) (s : State)
@[simp] theorem noteEnChange_cfg : (noteEnChange old s).cfg = s.cfg := by unfold noteEnChange; split <;> rfl
@[simp] theorem noteEnChange_env : (noteEnChange old s).env = s.env := by unfold noteEnChange; split <;> rfl
@[simp] theorem noteEnChange_fpexc : (noteEnChange old s).fpexc = s.fpexc := by unfold noteEnChange; split <;> rfl
@[simp] theorem noteEnChange_x : (noteEnChange old s).x = s.x := by unfold noteEnChange; split <;> rfl
@[simp] theorem noteEnChange_pc : (noteEnChange old s).pc = s.pc := by unfold noteEnChange; split <;> rfl
theorem noteEnChange_enOld : (noteEnChange old s).enOld =
    if s.cfg.enSync = .deferred ∧ old ≠ s.fpexc.getLsbD 30 then some old else s.enOld := by
  unfold noteEnChange; split <;> rfl
@[simp] theorem noteEnChange_outcome : (noteEnChange old s).outcome = s.outcome := by unfold noteEnChange; split <;> rfl
@[simp] theorem noteEnChange_inputs : (noteEnChange old s).inputs = s.inputs := by unfold noteEnChange; split <;> rfl
@[simp] theorem noteEnChange_program : (noteEnChange old s).program = s.program := by unfold noteEnChange; split <;> rfl
@[simp] theorem noteEnChange_draws : (noteEnChange old s).draws = s.draws := by unfold noteEnChange; split <;> rfl
end noteEnChange

section setFPEXC
variable (v : Word) (s : State)
@[simp] theorem setFPEXC_cfg : (setFPEXC v s).cfg = s.cfg := by simp [setFPEXC]
@[simp] theorem setFPEXC_env : (setFPEXC v s).env = s.env := by simp [setFPEXC]
@[simp] theorem setFPEXC_fpexc : (setFPEXC v s).fpexc = v := by simp [setFPEXC]
@[simp] theorem setFPEXC_x : (setFPEXC v s).x = s.x := by simp [setFPEXC]
@[simp] theorem setFPEXC_pc : (setFPEXC v s).pc = s.pc := by simp [setFPEXC]
theorem setFPEXC_enOld : (setFPEXC v s).enOld =
    if s.cfg.enSync = .deferred ∧ s.fpexc.getLsbD 30 ≠ v.getLsbD 30 then some (s.fpexc.getLsbD 30) else s.enOld := by
  simp only [setFPEXC, noteEnChange_enOld]
@[simp] theorem setFPEXC_outcome : (setFPEXC v s).outcome = s.outcome := by simp [setFPEXC]
@[simp] theorem setFPEXC_inputs : (setFPEXC v s).inputs = s.inputs := by simp [setFPEXC]
@[simp] theorem setFPEXC_program : (setFPEXC v s).program = s.program := by simp [setFPEXC]
@[simp] theorem setFPEXC_draws : (setFPEXC v s).draws = s.draws := by simp [setFPEXC]
end setFPEXC

section withCondition
variable (p : Bool) (s : State)
@[simp] theorem withCondition_cfg : (withCondition p s).cfg = s.cfg := rfl
@[simp] theorem withCondition_env : (withCondition p s).env = { s.env with conditionPassed := p } := rfl
@[simp] theorem withCondition_fpexc : (withCondition p s).fpexc = s.fpexc := rfl
@[simp] theorem withCondition_x : (withCondition p s).x = s.x := rfl
@[simp] theorem withCondition_pc : (withCondition p s).pc = s.pc := rfl
@[simp] theorem withCondition_enOld : (withCondition p s).enOld = s.enOld := rfl
@[simp] theorem withCondition_outcome : (withCondition p s).outcome = s.outcome := rfl
@[simp] theorem withCondition_inputs : (withCondition p s).inputs = s.inputs := rfl
@[simp] theorem withCondition_program : (withCondition p s).program = s.program := rfl
@[simp] theorem withCondition_draws : (withCondition p s).draws = s.draws := rfl
end withCondition

section inputs
variable (s : State)
@[simp] theorem inputEnvironment_fpexc (e : Env) : (inputEnvironment e s).fpexc = s.fpexc := rfl
@[simp] theorem inputEnvironment_env (e : Env) : (inputEnvironment e s).env = e := rfl
@[simp] theorem inputSynchronise_fpexc : (inputSynchronise s).fpexc = s.fpexc := rfl
@[simp] theorem inputSynchronise_enOld : (inputSynchronise s).enOld = none := rfl
@[simp] theorem inputWarmReset_fpexc (x : Vector Word 15) (pc : Word) (e : Env) :
    (inputWarmReset x pc e s).fpexc = nextDraw s &&& ~~~mEN := rfl
end inputs

end Sys2Proof.Machine
end

