-- ==== Sys2Proof/Laws/Ops.lean ====
section
/-! SUPPORT. What each shared operation can do, once. -/

namespace Sys2Proof.Machine

theorem rtOk_iff (t : BitVec 4) : rtOk t = true ↔ t.toNat < 15 := by
  revert t; decide

theorem readX_some (t : BitVec 4) (s : State) (h : rtOk t = true) :
    readX t s = some (s.x[t.toNat]'((rtOk_iff t).1 h)) := by
  unfold readX
  exact Vector.getElem?_eq_getElem _

theorem readX_none (t : BitVec 4) (s : State) (h : rtOk t = false) : readX t s = none := by
  have : ¬ t.toNat < 15 := fun hlt => by simp [(rtOk_iff t).2 hlt] at h
  unfold readX
  exact Vector.getElem?_eq_none (by omega)

theorem readX_eq_none_iff (t : BitVec 4) (s : State) : readX t s = none ↔ rtOk t = false := by
  cases h : rtOk t
  · simp [readX_none t s h]
  · simp [readX_some t s h]

theorem writeX_other (t : BitVec 4) (v : Word) (s : State) (r : Nat) (h : r ≠ t.toNat) :
    (writeX t v s).x[r]? = s.x[r]? := by
  rw [writeX_x, Vector.getElem?_setIfInBounds]
  simp [Ne.symm h]

theorem writeX_same (t : BitVec 4) (v : Word) (s : State) (h : rtOk t = true) : readX t (writeX t v s) = some v := by
  have := (rtOk_iff t).1 h
  unfold readX
  rw [writeX_x, Vector.getElem?_setIfInBounds]
  simp [this]

/-- `checked` does the transfer where AccessCheck says OK, and otherwise raises one outcome. -/
theorem checked_cases (f : State → State) (s : State) :
    (accessCheck s.cfg s.env = .ok ∧ checked f s = f s) ∨
    (accessCheck s.cfg s.env ≠ .ok ∧ ∃ o, checked f s = raise o s) := by
  unfold checked
  split
  · exact .inl ⟨by assumption, rfl⟩
  · rename_i l h; exact .inr ⟨by simp [h], _, rfl⟩
  · rename_i t e h; exact .inr ⟨by simp [h], _, rfl⟩
  · rename_i e h; exact .inr ⟨by simp [h], _, rfl⟩

theorem checked_ok (f : State → State) (s : State) (h : accessCheck s.cfg s.env = .ok) : checked f s = f s := by
  unfold checked; rw [h]

/-- A VMRS of an admitted register answers one next state: the transfer or its outcome, or only `pc` (R55). -/
theorem vmrsStep_next (p : Bool) (t : BitVec 4) (s : State) (h : rtOk t = true) :
    vmrsStep p t s = .next (if p then checked (readTransfer t) s else advancePc s) := by
  simp [vmrsStep, readX_some t s h]

theorem vmrsStep_refused (p : Bool) (t : BitVec 4) (s : State) (h : rtOk t = false) :
    vmrsStep p t s = .refused .rtFifteen := by
  simp [vmrsStep, readX_none t s h]

/-- The same for a VMSR, whose register holds `v` (R56). -/
theorem vmsrStep_next (p : Bool) (t : BitVec 4) (s : State) (v : Word) (h : readX t s = some v) :
    vmsrStep p t s = .next (if p then checked (writeTransfer v) s else advancePc s) := by
  simp [vmsrStep, h]

theorem vmsrStep_refused (p : Bool) (t : BitVec 4) (s : State) (h : rtOk t = false) :
    vmsrStep p t s = .refused .rtFifteen := by
  simp [vmsrStep, readX_none t s h]

theorem withCondA32_ok (cond : BitVec 4) (r : Host.Outcome State Fault Refusal) (h : condOk cond = true) :
    withCondA32 cond r = r := by
  simp [withCondA32, h]

section transfers
variable (t : BitVec 4) (v : Word) (s : State)
@[simp] theorem readTransfer_cfg : (readTransfer t s).cfg = s.cfg := rfl
@[simp] theorem readTransfer_env : (readTransfer t s).env = s.env := rfl
@[simp] theorem readTransfer_fpexc : (readTransfer t s).fpexc = s.fpexc := rfl
@[simp] theorem readTransfer_x :
    (readTransfer t s).x = s.x.setIfInBounds t.toNat (readFPEXC s.cfg s.fpexc (nextDraw s)) := rfl
@[simp] theorem readTransfer_pc : (readTransfer t s).pc = s.pc + 4#32 := rfl
@[simp] theorem readTransfer_enOld : (readTransfer t s).enOld = s.enOld := rfl
@[simp] theorem readTransfer_outcome : (readTransfer t s).outcome = s.outcome := rfl
@[simp] theorem readTransfer_inputs : (readTransfer t s).inputs = s.inputs := rfl
@[simp] theorem readTransfer_program : (readTransfer t s).program = s.program := rfl
@[simp] theorem readTransfer_draws : (readTransfer t s).draws = s.draws + 1 := rfl
@[simp] theorem writeTransfer_cfg : (writeTransfer v s).cfg = s.cfg := by simp [writeTransfer]
@[simp] theorem writeTransfer_env : (writeTransfer v s).env = s.env := by simp [writeTransfer]
@[simp] theorem writeTransfer_fpexc : (writeTransfer v s).fpexc = writeFPEXC s.cfg s.fpexc v := by simp [writeTransfer]
@[simp] theorem writeTransfer_x : (writeTransfer v s).x = s.x := by simp [writeTransfer]
@[simp] theorem writeTransfer_pc : (writeTransfer v s).pc = s.pc + 4#32 := by simp [writeTransfer]
theorem writeTransfer_enOld : (writeTransfer v s).enOld =
    if s.cfg.enSync = .deferred ∧ s.fpexc.getLsbD 30 ≠ (writeFPEXC s.cfg s.fpexc v).getLsbD 30
    then some (s.fpexc.getLsbD 30) else s.enOld := by
  simp [writeTransfer, setFPEXC_enOld]
@[simp] theorem writeTransfer_outcome : (writeTransfer v s).outcome = s.outcome := by simp [writeTransfer]
@[simp] theorem writeTransfer_inputs : (writeTransfer v s).inputs = s.inputs := by simp [writeTransfer]
@[simp] theorem writeTransfer_program : (writeTransfer v s).program = s.program := by simp [writeTransfer]
@[simp] theorem writeTransfer_draws : (writeTransfer v s).draws = s.draws := by simp [writeTransfer]
end transfers

end Sys2Proof.Machine
end

