-- ==== Sys2Proof/Laws/Exec.lean ====
section
/-! SUPPORT. What an instruction can do: one equation for the well-formed ones of each direction, one inversion lemma. -/

namespace Sys2Proof.Machine

/-- A well-formed instruction is a VMRS or a VMSR of an admitted register, under its condition (R51, R55, R56). -/
theorem exec_wf (i : Instr) (s : State) (hw : i.wf = true) :
    rtOk i.rt = true ∧ exec i s = (if i.isRead then vmrsStep (conditionHolds i s.env) i.rt s
      else vmsrStep (conditionHolds i s.env) i.rt s) := by
  cases i with
  | vmrsA32 c t =>
    obtain ⟨h1, h2⟩ : condOk c = true ∧ rtOk t = true := by simpa [Instr.wf] using hw
    exact ⟨h2, withCondA32_ok c _ h1⟩
  | vmsrA32 c t =>
    obtain ⟨h1, h2⟩ : condOk c = true ∧ rtOk t = true := by simpa [Instr.wf] using hw
    exact ⟨h2, withCondA32_ok c _ h1⟩
  | vmrsT32 t => exact ⟨hw, rfl⟩
  | vmsrT32 t => exact ⟨hw, rfl⟩

/-- An instruction no word decodes to is refused (R48, R50). -/
theorem exec_illformed (i : Instr) (s : State) (hw : i.wf = false) :
    exec i s = .refused .condReserved ∨ exec i s = .refused .rtFifteen := by
  cases i with
  | vmrsA32 c t =>
    cases h1 : condOk c
    · left; simp [exec, execVmrsA32, withCondA32, h1]
    · right
      have h2 : rtOk t = false := by simpa [Instr.wf, h1] using hw
      exact (withCondA32_ok c _ h1).trans (vmrsStep_refused _ t s h2)
  | vmsrA32 c t =>
    cases h1 : condOk c
    · left; simp [exec, execVmsrA32, withCondA32, h1]
    · right
      have h2 : rtOk t = false := by simpa [Instr.wf, h1] using hw
      exact (withCondA32_ok c _ h1).trans (vmsrStep_refused _ t s h2)
  | vmrsT32 t => exact .inr (vmrsStep_refused _ t s hw)
  | vmsrT32 t => exact .inr (vmsrStep_refused _ t s hw)

theorem wf_of_exec_next (i : Instr) (s s' : State) (h : exec i s = .next s') : i.wf = true := by
  cases hw : i.wf
  · rcases exec_illformed i s hw with h' | h' <;> simp [h'] at h
  · rfl

theorem reg_of_wf (i : Instr) (s : State) (hw : i.wf = true) : ∃ v, s.x[i.rt.toNat]? = some v :=
  ⟨_, readX_some _ s (exec_wf i s hw).1⟩

theorem exec_read (i : Instr) (s : State) (hw : i.wf = true) (hr : i.isRead = true) :
    exec i s = .next (if conditionHolds i s.env then checked (readTransfer i.rt) s else advancePc s) := by
  obtain ⟨h1, h2⟩ := exec_wf i s hw
  rw [h2, hr, if_pos rfl, vmrsStep_next _ _ _ h1]

theorem exec_write (i : Instr) (s : State) (v : Word) (hw : i.wf = true) (hr : i.isRead = false)
    (hv : s.x[i.rt.toNat]? = some v) :
    exec i s = .next (if conditionHolds i s.env then checked (writeTransfer v) s else advancePc s) := by
  rw [(exec_wf i s hw).2, hr, if_neg Bool.false_ne_true, vmsrStep_next _ _ _ v hv]

/-- What an instruction that answers a next state has done: only advanced `pc`, raised an outcome, or done its transfer. -/
theorem exec_next (i : Instr) (s s' : State) (h : exec i s = .next s') :
    s' = advancePc s ∨ (accessCheck s.cfg s.env ≠ .ok ∧ ∃ o, s' = raise o s) ∨
    (conditionHolds i s.env = true ∧ accessCheck s.cfg s.env = .ok ∧
      ((i.isRead = true ∧ s' = readTransfer i.rt s) ∨
       (i.isRead = false ∧ ∃ v, s.x[i.rt.toNat]? = some v ∧ s' = writeTransfer v s))) := by
  have hw := wf_of_exec_next i s s' h
  cases hr : i.isRead
  · obtain ⟨v, hv⟩ := reg_of_wf i s hw
    rw [exec_write i s v hw hr hv] at h
    injection h with h; subst h
    cases hc : conditionHolds i s.env
    · exact .inl rfl
    · rcases checked_cases (writeTransfer v) s with ⟨hk, h⟩ | ⟨hk, o, h⟩
      · exact .inr (.inr ⟨rfl, hk, .inr ⟨rfl, v, hv, by rw [if_pos rfl, h]⟩⟩)
      · exact .inr (.inl ⟨hk, o, by rw [if_pos rfl, h]⟩)
  · rw [exec_read i s hw hr] at h
    injection h with h; subst h
    cases hc : conditionHolds i s.env
    · exact .inl rfl
    · rcases checked_cases (readTransfer i.rt) s with ⟨hk, h⟩ | ⟨hk, o, h⟩
      · exact .inr (.inr ⟨rfl, hk, .inl ⟨rfl, by rw [if_pos rfl, h]⟩⟩)
      · exact .inr (.inl ⟨hk, o, by rw [if_pos rfl, h]⟩)

/-- Every instruction keeps the configuration, the environment, the program text and the inputs. -/
theorem exec_keeps (i : Instr) (s s' : State) (h : exec i s = .next s') :
    s'.cfg = s.cfg ∧ s'.env = s.env ∧ s'.program = s.program ∧ s'.inputs = s.inputs := by
  rcases exec_next i s s' h with rfl | ⟨-, o, rfl⟩ | ⟨-, -, ⟨-, rfl⟩ | ⟨-, v, -, rfl⟩⟩ <;> simp

end Sys2Proof.Machine
end

