-- ==== Sys2Proof/Laws/PerInstr.lean ====
section
/-! SUPPORT. Statements about every instruction as syntax, one lemma per constructor. -/

namespace Sys2Proof.Laws.EncodedFields

/-- The word of an instruction is a VMRS or VMSR with `reg = 0b1000`, its own `Rt` and every should-be-zero bit clear (R45, R48). -/
def Statement (i : Instr) : Prop :=
  isVmrsVmsr (encode i) = true ∧ regField (encode i) = 8#4 ∧ sbzClear (encode i) = true ∧
    rtField (encode i) = match i with
      | .vmrsA32 _ t => t
      | .vmsrA32 _ t => t
      | .vmrsT32 t => t
      | .vmsrT32 t => t

theorem vmrsA32 (cond t : BitVec 4) : Statement (.vmrsA32 cond t) := by
  revert cond t; unfold Statement; decide

theorem vmsrA32 (cond t : BitVec 4) : Statement (.vmsrA32 cond t) := by
  revert cond t; unfold Statement; decide

theorem vmrsT32 (t : BitVec 4) : Statement (.vmrsT32 t) := by
  revert t; unfold Statement; decide

theorem vmsrT32 (t : BitVec 4) : Statement (.vmsrT32 t) := by
  revert t; unfold Statement; decide

end Sys2Proof.Laws.EncodedFields
end

