-- ==== Sys2Proof/Laws/Program.lean ====
section
/-! SUPPORT. The program text: a read after a write, and the canonical form. -/

namespace Sys2Proof.Machine

theorem progRead_progWrite_same (p : List (Nat × Word)) (a : Nat) (v : Word) : progRead (progWrite p a v) a = some v := by
  induction p with
  | nil => simp [progWrite, progRead]
  | cons c rest ih =>
    obtain ⟨b, w⟩ := c
    unfold progWrite
    split
    · simp [progRead]
    · split
      · simp [progRead]
      · rename_i h1 h2
        simp [progRead, h2, ih]

theorem progRead_progWrite_other (p : List (Nat × Word)) (a b : Nat) (v : Word) (h : b ≠ a) :
    progRead (progWrite p a v) b = progRead p b := by
  induction p with
  | nil => simp [progWrite, progRead, h]
  | cons c rest ih =>
    obtain ⟨d, w⟩ := c
    unfold progWrite
    split
    · simp [progRead, h]
    · split
      · rename_i h1 h2
        subst h2
        simp [progRead, h]
      · simp [progRead, ih]

/-- The first address of a program text is above `a` (true of the empty one). -/
def headAbove (a : Nat) : List (Nat × Word) → Bool
  | [] => true
  | (b, _) :: _ => decide (a < b)

theorem progWf_cons (a : Nat) (w : Word) (p : List (Nat × Word)) :
    progWf ((a, w) :: p) = (headAbove a p && progWf p) := by
  cases p with
  | nil => rfl
  | cons c rest => rfl

theorem headAbove_progWrite (p : List (Nat × Word)) (a b : Nat) (v : Word) (hp : headAbove b p = true) (h : b < a) :
    headAbove b (progWrite p a v) = true := by
  cases p with
  | nil => simpa [progWrite, headAbove] using h
  | cons c rest =>
    obtain ⟨d, w⟩ := c
    unfold progWrite
    split
    · simpa [headAbove] using h
    · split
      · simpa [headAbove] using h
      · simpa [headAbove] using hp

/-- Placing a word keeps the canonical form. -/
theorem progWrite_wf (p : List (Nat × Word)) (a : Nat) (v : Word) (hp : progWf p = true) :
    progWf (progWrite p a v) = true := by
  induction p with
  | nil => rfl
  | cons c rest ih =>
    obtain ⟨b, w⟩ := c
    rw [progWf_cons, Bool.and_eq_true] at hp
    unfold progWrite
    split
    · rename_i h
      rw [progWf_cons, progWf_cons, hp.1, hp.2]
      simp [headAbove, h]
    · split
      · rename_i h1 h2
        subst h2
        simp [progWf_cons, hp]
      · rename_i h1 h2
        have hlt : b < a := by omega
        rw [progWf_cons, Bool.and_eq_true]
        exact ⟨headAbove_progWrite rest a b v hp.1 hlt, ih hp.2⟩

theorem placeWord_program_wf (w : Word) (s : State) (h : progWf s.program = true) :
    progWf (placeWord w s).program = true := progWrite_wf _ _ _ h

end Sys2Proof.Machine
end

