-- ==== Sys2Proof/Laws/Step.lean ====
section
/-! SUPPORT. What a step can be, and what an input can do. -/

namespace Sys2Proof.Machine

theorem step_input (s : State) (i : Input) (rest : List Input) (h : s.inputs = i :: rest) :
    step s = applyInput i { s with inputs := rest } := by
  simp [step, h]

theorem whileRunning_next (r : Host.Outcome State Fault Refusal) (s s' : State) (h : whileRunning r s = .next s') :
    s.outcome = none ∧ r = .next s' := by
  unfold whileRunning at h
  split at h
  · cases h
  · exact ⟨by assumption, h⟩

/-- An instruction's step that answers a next state has run the decoded instruction at `pc` (R91 a). -/
theorem runInstruction_next (s s' : State) (h : runInstruction s = .next s') :
    s.outcome = none ∧ ∃ i, fetch s = .ok i ∧ exec i s = .next s' := by
  obtain ⟨ho, h⟩ := whileRunning_next _ s s' h
  split at h
  · cases h
  · exact ⟨ho, _, by assumption, h⟩

/-- A step that answers a next state is that of another agent, whose turn is taken from the queue, or runs the decoded instruction
at `pc` in the state its turn gives it. -/
theorem step_cases (s s' : State) (h : step s = .next s') :
    (∃ i rest, s.inputs = i :: rest ∧ isInstruction i = false ∧ applyInput i { s with inputs := rest } = .next s') ∨
    (∃ t i, instructionRunsIn s t ∧ t.outcome = none ∧ fetch t = .ok i ∧ exec i t = .next s') := by
  unfold step at h
  split at h
  · rename_i i rest hi
    cases hk : isInstruction i
    · exact .inl ⟨i, rest, hi, hk, h⟩
    · cases i <;> simp only [isInstruction, Bool.false_eq_true] at hk
      rename_i p
      obtain ⟨ho, i, hf, he⟩ := runInstruction_next _ s' h
      exact .inr ⟨_, i, .inr ⟨p, rest, hi, rfl⟩, ho, hf, he⟩
  · rename_i hi
    obtain ⟨ho, i, hf, he⟩ := runInstruction_next s s' h
    exact .inr ⟨s, i, .inl ⟨hi, rfl⟩, ho, hf, he⟩

/-- An instruction runs in a state that differs in the queue and in `ConditionPassed` only. -/
theorem instructionRunsIn_keeps (s t : State) (h : instructionRunsIn s t) :
    t.cfg = s.cfg ∧ t.fpexc = s.fpexc ∧ t.x = s.x ∧ t.pc = s.pc ∧ t.enOld = s.enOld ∧ t.outcome = s.outcome ∧
      t.program = s.program ∧ t.draws = s.draws ∧ t.env = { s.env with conditionPassed := t.env.conditionPassed } ∧
      t.inputs = s.inputs.tail := by
  rcases h with ⟨hi, rfl⟩ | ⟨p, rest, hi, rfl⟩ <;> simp [hi]

theorem inputFpException_next (c : FPCause) (s s' : State) (h : inputFpException c s = .next s') :
    fpCausePossible s.cfg s.env c = true ∧
      s' = raise (.fpSyncException c) { s with fpexc := recordFP s.cfg c s.fpexc } := by
  unfold inputFpException at h
  split at h
  · injection h with h; exact ⟨by assumption, h.symm⟩
  · cases h

theorem inputUnallocated_next (s s' : State) (h : inputUnallocated s = .next s') :
    s.env.executingCp10or11 = true ∧
      s' = raise .unallocatedCp10or11 { s with fpexc := recordUnallocated s.cfg s.fpexc } := by
  unfold inputUnallocated at h
  split at h
  · injection h with h; exact ⟨by assumption, h.symm⟩
  · cases h

theorem inputGatedAccess_cases (l : List FPAccess) (s : State) :
    inputGatedAccess l s = drawn s ∨ inputGatedAccess l s = raise (.undefined .enGate) (drawn s) := by
  unfold inputGatedAccess
  split
  · exact .inr rfl
  · exact .inl rfl

/-- With nothing unsynchronised a gated access sees `S[30]` (R43). -/
theorem enSeen_synchronised (s : State) (h : s.enOld = none) : enSeen s = s.fpexc.getLsbD 30 := by
  unfold enSeen
  rw [h]
  split <;> first | rfl | (rename_i h; simp at h)

/-- Every input keeps the configuration, the program text and the inputs still queued. -/
theorem applyInput_keeps (i : Input) (s s' : State) (h : applyInput i s = .next s') :
    s'.cfg = s.cfg ∧ s'.program = s.program ∧ s'.inputs = s.inputs := by
  cases i with
  | instruction p =>
    obtain ⟨-, i, -, h⟩ := runInstruction_next _ s' h
    have := exec_keeps i _ s' h
    exact ⟨this.1, this.2.2.1, this.2.2.2⟩
  | environment e => injection h with h; subst h; exact ⟨rfl, rfl, rfl⟩
  | resume x pc e => injection h with h; subst h; exact ⟨rfl, rfl, rfl⟩
  | aarch64Write v => injection h with h; subst h; simp [inputAArch64Write]
  | synchronise => injection h with h; subst h; exact ⟨rfl, rfl, rfl⟩
  | fpException c =>
    obtain ⟨-, rfl⟩ := inputFpException_next c s s' (whileRunning_next _ _ _ h).2
    exact ⟨rfl, rfl, rfl⟩
  | unallocated =>
    obtain ⟨-, rfl⟩ := inputUnallocated_next s s' (whileRunning_next _ _ _ h).2
    exact ⟨rfl, rfl, rfl⟩
  | gatedAccess l =>
    have h := (whileRunning_next _ _ _ h).2
    injection h with h
    subst h
    rcases inputGatedAccess_cases l s with h | h <;> rw [h] <;> exact ⟨rfl, rfl, rfl⟩
  | warmReset x pc e => injection h with h; subst h; exact ⟨rfl, rfl, rfl⟩

theorem fetch_ok (s : State) (i : Instr) (h : fetch s = .ok i) :
    ∃ w, progRead s.program s.pc.toNat = some w ∧ decode s.env.iset w = .ok i := by
  unfold fetch at h
  split at h
  · cases h
  · rename_i w hw
    split at h
    · cases h
    · rename_i j hd
      injection h with h; subst h; exact ⟨w, hw, hd⟩

/-- A run of one more step is a step and then the run. -/
theorem run_succ (k : Nat) (s s' : State) (h : Sys2Proof.core.run (k + 1) s = .next s') :
    ∃ s1, step s = .next s1 ∧ Sys2Proof.core.run k s1 = .next s' := by
  simp only [Sys2Proof.core, Host.Core.run] at h ⊢
  split at h
  · rename_i s1 h1; exact ⟨s1, h1, h⟩
  · cases h
  · cases h

/-- A run that has ended in an outcome is not good, whatever comes after (R79, R91). -/
theorem not_goodRun_of_ended (k j : Nat) (s s' t : State) (hj : j ≤ k) (ht : Sys2Proof.core.run j s = .next t)
    (he : endedInOutcome t = true) : ¬ goodRun k s s' := by
  rintro ⟨-, -, h, -⟩
  rw [h j t hj ht] at he
  cases he

/-- Every state that ends a run has an outcome; one without has completed. -/
theorem endedInOutcome_of_completed (s : State) (h : completed s = true) : endedInOutcome s = false := by
  have : s.outcome = none := by simpa [completed] using h
  simp [endedInOutcome, this]

/-- One instruction's step between states without an outcome is a good run (R91). -/
theorem goodRun_one (s s' : State) (hs : completed s = true) (hi : instructionIsNext s = true) (h : step s = .next s')
    (hs' : completed s' = true) : goodRun 1 s s' := by
  have h1 : Sys2Proof.core.run 1 s = .next s' := by simp only [Sys2Proof.core, Host.Core.run, h]
  refine ⟨h1, hs', fun j t hj ht => ?_, 0, s, by omega, rfl, hi⟩
  rcases Nat.le_one_iff_eq_zero_or_eq_one.1 hj with rfl | rfl
  · injection ht with ht; subst ht; exact endedInOutcome_of_completed _ hs
  · rw [h1] at ht; injection ht with ht; subst ht; exact endedInOutcome_of_completed _ hs'

end Sys2Proof.Machine
end

