-- ==== Sys2Proof/Tests/Slice0.lean ====
section
/-! SUPPORT. The model's own tests. The expected values are those of 95_test_vectors.md (the vector is named in the theorem) and of
30_encoding.md rule R48; the last part holds, for each statement of Certificates/Slice0/Obligations.lean that has hypotheses, a
concrete state or operand that meets them. -/

namespace Sys2Proof.Tests

open Sys2Proof Sys2Proof.Machine

/-! Configurations of 95_test_vectors.md 2.0. -/

def cfgA : Config := Config.plain
def cfgA2 : Config := { cfgA with tfvOverlap := .raoWi }
def cfgB : Config :=
  { cfgA with
    trapIde := true, trapIxe := true, trapUfe := true, trapOfe := true, trapDze := true, trapIoe := true
    lenStrideRaz := false }
def cfgC : Config := { cfgB with lenStrideRaz := true }
def cfgD : Config := { cfgA with resStorage := 0x3BFFFF60#32 }
def cfgE : Config := { cfgA with trapDze := true, trapIoe := true, lenStrideRaz := false }
def cfgF : Config := { cfgA with lenStrideRaz := false }

/-- Two registers set, the others 0. -/
def regs (r0 r1 : Word) : Vector Word 15 :=
  ((Vector.replicate 15 0x00000000#32).setIfInBounds 0 r0).setIfInBounds 1 r1

/-- A state at `pc = 00008000`. -/
def st (c : Config) (e : Env) (S r0 r1 : Word) : State :=
  { State.reset with cfg := c, env := e, fpexc := S, x := regs r0 r1, pc := 0x00008000#32 }

/-! WellFormed: an ill-formed term for each check. -/

theorem test_wf_accepts : (Instr.vmrsA32 0#4 0#4).wf = true ∧ (Instr.vmsrA32 14#4 14#4).wf = true ∧
    (Instr.vmrsT32 0#4).wf = true ∧ (Instr.vmsrT32 14#4).wf = true := by decide
theorem test_wf_refuses_cond_15 : (Instr.vmrsA32 15#4 0#4).wf = false ∧ (Instr.vmsrA32 15#4 0#4).wf = false := by decide
theorem test_wf_refuses_rt_15 : (Instr.vmrsA32 14#4 15#4).wf = false ∧ (Instr.vmsrA32 14#4 15#4).wf = false ∧
    (Instr.vmrsT32 15#4).wf = false ∧ (Instr.vmsrT32 15#4).wf = false := by decide

/-! Decoding: words written out from R48's tables, bits 31:28, 27:24, 23:21, 20, 19:16, 15:12, 11:8, 7:4, 3:0. -/

theorem test_decode_vmrsA32 :
    decode .a32 0b1011_1110_111_1_1000_0101_1010_0001_0000#32 = .ok (.vmrsA32 11#4 5#4) := by decide
theorem test_decode_vmsrA32 :
    decode .a32 0b0001_1110_111_0_1000_1110_1010_0001_0000#32 = .ok (.vmsrA32 1#4 14#4) := by decide
theorem test_decode_vmrsT32 :
    decode .t32 0b1110_1110_111_1_1000_1101_1010_0001_0000#32 = .ok (.vmrsT32 13#4) := by decide
theorem test_decode_vmsrT32 :
    decode .t32 0b1110_1110_111_0_1000_0111_1010_0001_0000#32 = .ok (.vmsrT32 7#4) := by decide
/-- R48: the condition of a T32 pattern is `1110`. -/
theorem test_decode_T32_other_cond : decode .t32 0x0EF80A10#32 = .error .notVmrsVmsr := by decide
theorem test_decode_IS9 : decode .a32 0xEEF8FA10#32 = .error .rtFifteen := by decide
theorem test_decode_IS10 : decode .a32 0xEEF80A11#32 = .error .sbzSet := by decide
theorem test_decode_IS11 : decode .a32 0xEEF10A10#32 = .error (.otherSpecialRegister 1#4) := by decide
theorem test_decode_IS12 : decode .a32 0xFEF80A10#32 = .error .condReserved := by decide
theorem test_encode_R48_examples : encode (.vmrsA32 14#4 0#4) = 0xEEF80A10#32 ∧ encode (.vmsrA32 14#4 0#4) = 0xEEE80A10#32 ∧
    encode (.vmrsT32 3#4) = 0xEEF83A10#32 ∧ encode (.vmsrT32 1#4) = 0xEEE81A10#32 := by decide
/-- The `match` values of opcode_table.json, row by row. -/
theorem test_decodeTableWord_rows : decodeTableWord 32 0x0EF80A10 = some (.vmrsA32 0#4 0#4) ∧
    decodeTableWord 32 0x0EE80A10 = some (.vmsrA32 0#4 0#4) ∧ decodeTableWord 32 0xEEF80A10 = some (.vmrsT32 0#4) ∧
    decodeTableWord 32 0xEEE80A10 = some (.vmsrT32 0#4) := by decide

/-! Masks and configurations (R10, R31, 95 2.0). -/

theorem test_masks : mReserved = 0x1BFFFF60#32 ∧ mFlags = 0x0000009F#32 := by decide
theorem test_wmask_of_configurations :
    [cfgA, cfgA2, cfgB, cfgC, cfgD, cfgE, cfgF].map wMask =
      [0x40000000#32, 0x40000000#32, 0x6000009F#32, 0x6000009F#32, 0x7BFFFF60#32, 0x60000003#32, 0x60000000#32] := by decide
theorem test_kinds_of_configurations :
    [cfgA, cfgA2, cfgB, cfgC, cfgD, cfgE, cfgF].map tfvKind =
      [.razWi, .raoWi, .status, .raoWi, .razWi, .status, .razWi] ∧
    [cfgA, cfgA2, cfgB, cfgC, cfgD, cfgE, cfgF].map dexRes0 = [true, true, false, false, true, false, false] ∧
    [cfgA, cfgA2, cfgB, cfgC, cfgD, cfgE, cfgF].all configWf = true := by decide

/-! The read view and the write merge. -/

/-- A read is `base | (u & unk)`, at the draws 0 and all ones. -/
def readsAs (c : Config) (S base unk : Word) : Bool :=
  readFPEXC c S 0x00000000#32 == base && readFPEXC c S 0xFFFFFFFF#32 == (base ||| unk)

/-- One row of 95 2.1. -/
def writesAs (c : Config) (S v S' base unk : Word) : Bool := writeFPEXC c S v == S' && readsAs c S' base unk

theorem test_W1_to_W4 :
    (writesAs cfgA 0x00000000#32 0xFFFFFFFF#32 0x40000000#32 0x40000700#32 0x00000000#32 &&
     writesAs cfgA 0xFFFFFFFF#32 0x00000000#32 0xBFFFFFFF#32 0x00000700#32 0x00000000#32 &&
     writesAs cfgA 0x12345678#32 0x40000000#32 0x52345678#32 0x40000700#32 0x00000000#32 &&
     writesAs cfgA2 0x00000000#32 0xFFFFFFFF#32 0x40000000#32 0x44000700#32 0x00000000#32) = true := by decide +kernel
theorem test_W5_to_W9 :
    (writesAs cfgB 0x00000000#32 0xFFFFFFFF#32 0x6000009F#32 0x60000700#32 0x0000009F#32 &&
     writesAs cfgB 0xFFFFFFFF#32 0x00000000#32 0x9FFFFF60#32 0x00000700#32 0x0400009F#32 &&
     writesAs cfgB 0x6400009F#32 0x40000000#32 0x44000000#32 0x40000700#32 0x0400009F#32 &&
     writesAs cfgB 0x24000001#32 0x40000000#32 0x44000000#32 0x40000700#32 0x0400009F#32 &&
     writesAs cfgC 0x00000000#32 0xFFFFFFFF#32 0x6000009F#32 0x6400079F#32 0x00000000#32) = true := by decide +kernel
theorem test_W10_to_W13 :
    (writesAs cfgD 0x00000000#32 0xFFFFFFFF#32 0x7BFFFF60#32 0x7BFFFF60#32 0x00000000#32 &&
     writesAs cfgD 0xFFFFFFFF#32 0x00000000#32 0x8400009F#32 0x00000000#32 0x00000000#32 &&
     writesAs cfgE 0x00000000#32 0xFFFFFFFF#32 0x60000003#32 0x60000700#32 0x00000003#32 &&
     writesAs cfgF 0x00000000#32 0xFFFFFFFF#32 0x60000000#32 0x60000700#32 0x00000000#32) = true := by decide +kernel
theorem test_RD1_to_RD7 :
    (readsAs cfgA 0x00000000#32 0x00000700#32 0x00000000#32 && readsAs cfgA 0xFFFFFFFF#32 0x40000700#32 0x00000000#32 &&
     readsAs cfgA2 0x00000000#32 0x04000700#32 0x00000000#32 && readsAs cfgA2 0xFFFFFFFF#32 0x44000700#32 0x00000000#32 &&
     readsAs cfgB 0x00000000#32 0x00000700#32 0x0400009F#32 && readsAs cfgB 0xFFFFFFFF#32 0x6400079F#32 0x00000000#32 &&
     readsAs cfgB 0x64000005#32 0x64000705#32 0x00000000#32) = true := by decide +kernel
theorem test_RD8_to_RD13 :
    (readsAs cfgB 0x60000005#32 0x60000700#32 0x0000009F#32 && readsAs cfgB 0x2000009F#32 0x20000700#32 0x0000009F#32 &&
     readsAs cfgB 0x4400009F#32 0x40000700#32 0x0400009F#32 && readsAs cfgC 0x2000009F#32 0x2400079F#32 0x00000000#32 &&
     readsAs cfgC 0x0000009F#32 0x04000700#32 0x0000009F#32 && readsAs cfgC 0x40000000#32 0x44000700#32 0x0000009F#32)
      = true := by decide +kernel
theorem test_RD14_to_RD20 :
    (readsAs cfgD 0x3BFFFF60#32 0x3BFFFF60#32 0x00000000#32 && readsAs cfgD 0xFFFFFFFF#32 0x7BFFFF60#32 0x00000000#32 &&
     readsAs cfgD 0x00000000#32 0x00000000#32 0x00000000#32 && readsAs cfgE 0x6400009F#32 0x64000703#32 0x00000000#32 &&
     readsAs cfgE 0x64000003#32 0x64000703#32 0x00000000#32 && readsAs cfgF 0x6400009F#32 0x60000700#32 0x00000000#32 &&
     readsAs cfgF 0x20000000#32 0x20000700#32 0x00000000#32) = true := by decide +kernel

/-! AccessCheck, vectors V1 to V30. The defaults of 95 2.3 are `cfgA` and `Env.plain`. -/

/-- "EL3 A64" and "EL3 A32", "EL2 A64" and "EL2 A32" of 95 2.3. -/
def cEl3A64 : Config := { cfgA with haveEL3 := true, featAA64EL3 := true }
def cEl3A32 : Config := { cfgA with haveEL3 := true, featAA32EL3 := true }
def cEl2A64 : Config := { cfgA with featAA64EL2 := true }
def cEl2A32 : Config := { cfgA with featAA32EL2 := true }
def cEl23A64 : Config := { cEl3A64 with featAA64EL2 := true }
def eEl3A32 : Env := { Env.plain with el3UsingAArch32 := true }
def eEl2A64 : Env := { Env.plain with el2Enabled := true }
def eEl2A32 : Env := { Env.plain with el2UsingAArch32 := true }
def eHost : Env := { eEl2A64 with el2IsInHost := true }
def eTfp3 : Env := { Env.plain with cptrEl3Tfp := 1#1 }
def eAtEL2 : Env := { Env.plain with el := .el2, el2Enabled := true }
def eAtEL3 : Env := { eEl3A32 with el := .el3 }
def eV2 : Env := { Env.plain with el := .el0 }
def eV9 : Env := { eEl2A64 with cptrEl2Tfp := 1#1 }
def eV15 : Env := { eEl2A32 with el2Enabled := true, hcptrTcp10 := 1#1 }
def eV22 : Env := { eAtEL2 with hcptrTcp10 := 1#1 }
def eV25 : Env := { eAtEL2 with cptrEl3Tfp := 1#1 }

theorem test_V1_to_V6 :
    accessCheck { cfgA with featAA32EL1 := false } Env.plain = .undef .lineA ∧ accessCheck cfgA eV2 = .undef .lineB ∧
    accessCheck cfgA Env.plain = .ok ∧ accessCheck cfgA { Env.plain with cpacrCp10 := 0b00#2 } = .undef .line12 ∧
    accessCheck cfgA { Env.plain with cpacrCp10 := 0b01#2 } = .ok ∧
    accessCheck cfgA { Env.plain with cpacrCp10 := 0b10#2 } = .ok := by decide
theorem test_V7_to_V10 :
    accessCheck cEl3A32 { eEl3A32 with scrNs := 1#1, nsacrCp10 := 0#1 } = .undef .line12 ∧
    accessCheck cEl3A32 { eEl3A32 with nsacrCp10 := 0#1 } = .ok ∧ accessCheck cEl2A64 eV9 = .trapA64 .el2 0x07 ∧
    accessCheck cEl2A64 { eV9 with cpacrCp10 := 0b00#2 } = .undef .line12 := by decide
theorem test_V11_to_V14 :
    accessCheck cEl2A64 { eHost with cptrEl2Fpen := 0b00#2 } = .trapA64 .el2 0x07 ∧
    accessCheck cEl2A64 { eHost with cptrEl2Fpen := 0b10#2 } = .trapA64 .el2 0x07 ∧
    accessCheck cEl2A64 { eHost with cptrEl2Fpen := 0b01#2 } = .ok ∧
    accessCheck cEl2A64 { eHost with cptrEl2Tfp := 1#1 } = .ok := by decide
theorem test_V15_to_V18 :
    accessCheck cEl2A32 eV15 = .hypTrap 0x08 ∧ accessCheck cEl2A32 { eV15 with el2Enabled := false } = .ok ∧
    accessCheck cEl3A64 eTfp3 = .trapA64 .el3 0x07 ∧
    accessCheck cEl3A64 { eTfp3 with el3SDDUndef := true } = .undef .line16a := by decide
theorem test_V19_to_V21 :
    accessCheck cEl3A64 { eTfp3 with el3SDDUndefPriority := true, el3SDDUndef := true } = .undef .line11 ∧
    accessCheck cEl23A64 { eV9 with cptrEl3Tfp := 1#1 } = .trapA64 .el2 0x07 ∧
    accessCheck cEl23A64 { eV9 with cptrEl3Tfp := 1#1, el3SDDUndefPriority := true } = .undef .line11 := by decide
theorem test_V22_to_V25 :
    accessCheck cfgA eV22 = .hypTrap 0x00 ∧ accessCheck cfgA { eAtEL2 with cpacrCp10 := 0b00#2 } = .ok ∧
    accessCheck cEl3A32 { eAtEL2 with el3UsingAArch32 := true, scrNs := 1#1, nsacrCp10 := 0#1 } = .hypTrap 0x00 ∧
    accessCheck cEl3A64 eV25 = .trapA64 .el3 0x07 := by decide
theorem test_V26_to_V30 :
    accessCheck cEl3A64 { eV25 with hcptrTcp10 := 1#1 } = .hypTrap 0x00 ∧
    accessCheck cEl3A64 { eV25 with hcptrTcp10 := 1#1, el3SDDUndefPriority := true } = .undef .line21 ∧
    accessCheck cEl3A64 { eV25 with el3SDDUndef := true } = .undef .line23a ∧
    accessCheck cEl3A32 { eAtEL3 with cpacrCp10 := 0b00#2 } = .undef .line31 ∧
    accessCheck cEl3A32 { eAtEL3 with cpacrCp10 := 0b01#2, scrNs := 1#1, nsacrCp10 := 0#1, hcptrTcp10 := 1#1 } = .ok := by
  decide

/-! EffectiveEN, vectors EN1 to EN12. -/

theorem test_EN1_to_EN5 :
    effectiveEN cfgA Env.plain false = false ∧ effectiveEN cfgA Env.plain true = true ∧
    effectiveEN cfgA { Env.plain with el := .el2 } false = false ∧
    effectiveEN cfgA { Env.plain with el := .el3 } false = false ∧
    effectiveEN cfgA { eV2 with el1UsingAArch64 := true } false = true := by decide

def eHostEl0 : Env := { eV2 with el2UsingAArch64 := true, el2Enabled := true, hcrEl2Tge := 1#1 }

theorem test_EN6_to_EN12 :
    effectiveEN cfgA { eHostEl0 with hcrEl2Rw := 1#1 } false = true ∧
    effectiveEN { cfgA with enEl0TgeRw0 := .one } eHostEl0 false = true ∧ effectiveEN cfgA eHostEl0 false = false ∧
    effectiveEN cfgA eHostEl0 true = true ∧ effectiveEN cfgA { eHostEl0 with hcrEl2Tge := 0#1 } false = false ∧
    effectiveEN cfgA eV2 false = false ∧ effectiveEN cfgA eV2 true = true := by decide

/-! What hardware records, vectors H1 to H13, and Warm reset, RS1 to RS3. -/

def noExc : ExcSet := ⟨false, false, false, false, false, false⟩
def excDZ : ExcSet := { noExc with dz := true }
def excIOIX : ExcSet := { noExc with io := true, ix := true }

theorem test_H1_to_H5 :
    recordFP cfgB (.trapped excDZ false false) 0x40000000#32 = 0x64000002#32 ∧
    recordFP cfgB (.shortVector .vadd) 0x40000000#32 = 0x60000000#32 ∧
    recordFP cfgB (.shortVector .vadd) 0x6400009F#32 = 0x6000009F#32 ∧
    recordFP cfgB (.trapped excIOIX false false) 0x64000002#32 = 0x64000013#32 ∧
    recordFP { cfgB with flagOverwrite := true } (.trapped excIOIX false false) 0x64000002#32 = 0x64000011#32 := by decide
theorem test_H6_to_H10 :
    recordUnallocated { cfgB with dexClearOnUnalloc := true } 0x64000002#32 = 0x44000002#32 ∧
    recordUnallocated { cfgD with dexClearOnUnalloc := true } 0x20000000#32 = 0x00000000#32 ∧
    recordUnallocated cfgB 0x64000002#32 = 0x64000002#32 ∧ recordUnallocated cfgB 0x40000000#32 = 0x40000000#32 ∧
    recordFP cfgC (.trapped { noExc with of := true } false false) 0x40000000#32 = 0x64000004#32 ∧
    recordFP cfgE (.trapped { noExc with io := true } false false) 0x40000000#32 = 0x64000001#32 := by decide

/-- An environment in which every trapped exception and the short-vector cause can arise. -/
def eFp : Env :=
  { Env.plain with
    executingCp10or11 := true, fpscrStrideNonzero := true, fpscrIde := 1#1, fpscrIxe := 1#1, fpscrUfe := 1#1
    fpscrOfe := 1#1, fpscrDze := 1#1, fpscrIoe := 1#1, fpscrFz := 1#1 }

theorem test_H11_to_H13 :
    fpCausePossible cfgA eFp (.trapped excDZ false false) = false ∧ fpCausePossible cfgA eFp (.shortVector .vadd) = false ∧
    fpCausePossible cfgC eFp (.shortVector .vadd) = false ∧ fpCausePossible cfgB eFp (.shortVector .vadd) = true ∧
    fpCausePossible cfgE eFp (.trapped excIOIX false false) = false ∧
    fpCausePossible cfgE eFp (.trapped excDZ false false) = true := by decide
/-- R22, R25: the flush-to-zero conditions. -/
theorem test_R22_R25_flush_to_zero :
    fpCausePossible cfgB eFp (.trapped { noExc with id := true } false false) = true ∧
    fpCausePossible cfgB { eFp with fpscrFz := 0#1 } (.trapped { noExc with id := true } false false) = false ∧
    fpCausePossible cfgB { eFp with fpscrFz16 := 1#1 } (.trapped { noExc with id := true } false true) = false ∧
    fpCausePossible cfgB eFp (.trapped { noExc with uf := true } false false) = false ∧
    fpCausePossible cfgB eFp (.trapped { noExc with uf := true } true false) = true ∧
    fpCausePossible cfgB { eFp with fpscrFz16 := 1#1 } (.trapped { noExc with uf := true } true false) = false := by decide
/-- R77: P4's read is its third row; with P_DEX_RES0 a storage-backed bit 29 at 1 is still the first row; RAO/WI has no middle row. -/
theorem test_R77_rows : causeOfRead cfgB 0x64000712#32 = .trapped { noExc with ix := true, dz := true } ∧
    causeOfRead cfgB 0x60000700#32 = .shortVector ∧ causeOfRead cfgB 0x44000700#32 = .unallocated ∧
    causeOfRead cfgD 0x20000000#32 = .unallocated := by decide
theorem test_RS_reads :
    (readsAs cfgA 0xBFFFFFFF#32 0x00000700#32 0x00000000#32 && readsAs cfgB 0xBFFFFFFF#32 0x2400079F#32 0x00000000#32 &&
     readsAs cfgD 0xBFFFFFFF#32 0x3BFFFF60#32 0x00000000#32 && readsAs cfgB 0x00000000#32 0x00000700#32 0x0400009F#32 &&
     readsAs cfgA 0xA5A5A5A5#32 0x00000700#32 0x00000000#32 && readsAs cfgB 0xA5A5A5A5#32 0x24000785#32 0x00000000#32 &&
     readsAs cfgD 0xA5A5A5A5#32 0x21A5A520#32 0x00000000#32) = true := by decide +kernel

/-! The instructions, vectors IS1 to IS8 and IS14, one step each. -/

/-- In configuration A no draw reaches a read, so `readFPEXC` is a fixed value at the free draw too. -/
theorem test_IS1_vmrsA32 : ∃ s', exec (.vmrsA32 14#4 0#4) (st cfgA Env.plain 0x40000000#32 0xDEADBEEF#32 0#32) = .next s' ∧
    s'.x = regs 0x40000700#32 0#32 ∧ s'.fpexc = 0x40000000#32 ∧ s'.pc = 0x00008004#32 ∧ s'.outcome = none :=
  ⟨_, rfl, by decide +kernel⟩
theorem test_IS2_vmsrA32 : ∃ s', exec (.vmsrA32 14#4 1#4) (st cfgA Env.plain 0#32 0#32 0x40000000#32) = .next s' ∧
    s'.fpexc = 0x40000000#32 ∧ s'.x = regs 0#32 0x40000000#32 ∧ s'.pc = 0x00008004#32 ∧ s'.enOld = some false :=
  ⟨_, rfl, by decide +kernel⟩
theorem test_IS3_raises_line_B : ∃ s', exec (.vmrsT32 0#4) (st cfgA eV2 0#32 0xDEADBEEF#32 0#32) = .next s' ∧
    s'.outcome = some (.undefined .lineB) ∧ s'.x = regs 0xDEADBEEF#32 0#32 ∧ s'.pc = 0x00008000#32 :=
  ⟨_, rfl, by decide +kernel⟩
theorem test_IS4_traps_to_EL2 : ∃ s', exec (.vmsrT32 1#4) (st cEl2A64 eV9 0#32 0#32 0x40000000#32) = .next s' ∧
    s'.outcome = some (.systemAccessTrapA64 .el2 0x07) ∧ s'.fpexc = 0#32 ∧ s'.pc = 0x00008000#32 :=
  ⟨_, rfl, by decide +kernel⟩
theorem test_IS5_hyp_trap : ∃ s', exec (.vmsrA32 14#4 1#4) (st cEl2A32 eV15 0#32 0#32 0x40000000#32) = .next s' ∧
    s'.outcome = some (.hypTrap 0x08) ∧ s'.fpexc = 0#32 ∧ s'.pc = 0x00008000#32 :=
  ⟨_, rfl, by decide +kernel⟩

/-- The environment of V2 with a condition that fails. -/
def eFails : Env := { eV2 with conditionPassed := false, inITBlock := true }

theorem test_IS7_failed_condition : ∃ s', exec (.vmrsA32 0#4 0#4) (st cfgA eFails 0#32 0#32 0#32) = .next s' ∧
    s'.outcome = none ∧ s'.pc = 0x00008004#32 ∧ s'.draws = 0 := ⟨_, rfl, by decide +kernel⟩
/-- R51: a T32 instruction in an IT block takes the block's condition. -/
theorem test_T32_failed_condition : ∃ s', exec (.vmsrT32 1#4) (st cfgA eFails 0#32 0#32 0x40000000#32) = .next s' ∧
    s'.outcome = none ∧ s'.pc = 0x00008004#32 ∧ s'.fpexc = 0#32 := ⟨_, rfl, by decide +kernel⟩
theorem test_IS8_vmrsT32_r14 : ∃ s', exec (.vmrsT32 14#4) (st cfgA Env.plain 0x40000000#32 0#32 0#32) = .next s' ∧
    s'.x[14]? = some 0x40000700#32 ∧ s'.x[13]? = some 0#32 := ⟨_, rfl, by decide +kernel⟩
theorem test_IS14_vmsrT32_pc_wraps : ∃ s',
    exec (.vmsrT32 1#4) { st cfgA Env.plain 0#32 0#32 0x40000000#32 with pc := 0xFFFFFFFC#32 } = .next s' ∧
    s'.pc = 0#32 ∧ s'.fpexc = 0x40000000#32 := ⟨_, rfl, by decide +kernel⟩

/-! The first step after reset with a table row's word placed (entry 5). -/

theorem test_reset_runs_placed_vmsr : ∃ s', step (State.reset.withFetchWord 32 0xEEE80A10) = .next s' ∧
    s'.pc = 4#32 ∧ s'.outcome = none ∧ s'.env.iset = .t32 := ⟨_, rfl, by decide +kernel⟩
theorem test_reset_runs_placed_vmrs : ∃ s', step (State.reset.withFetchWord 32 0x0EF80A10) = .next s' ∧
    s'.pc = 4#32 ∧ s'.x[0]? = some 0x00000700#32 := ⟨_, rfl, by decide +kernel⟩
/-- Entry 5: nothing is placed at reset, so the first step has no instruction. -/
theorem test_reset_has_no_program : step State.reset = .refused .noInstruction := rfl

/-! Turns: two instructions under different conditions, and a Warm reset after an instruction (R51, R91 c and d). -/

def sTurns : State :=
  { st cfgA Env.plain 0x40000000#32 0#32 0#32 with
    program := [(0x00008000, 0x0EF80A10#32), (0x00008004, 0x1EF81A10#32)]
    inputs := [.instruction false, .instruction true] }

/-- `VMRSEQ r0, FPEXC` with a condition that fails, then `VMRSNE r1, FPEXC` with one that passes. -/
theorem test_R51_conditions_differ_in_one_run : ∃ s', Sys2Proof.core.run 2 sTurns = .next s' ∧
    s'.x = regs 0#32 0x40000700#32 ∧ s'.pc = 0x00008008#32 := ⟨_, rfl, by decide +kernel⟩
theorem test_R91_reset_lands_after_an_instruction : ∃ s', Sys2Proof.core.run 2
    { (st cfgA Env.plain 0#32 0#32 0x40000000#32).withFetchWord 32 0xEEE81A10 with inputs := [.instruction true, .warmReset (regs 7#32 0#32) 0#32 Env.plain] } = .next s' ∧
    s'.x = regs 7#32 0#32 ∧ s'.enOld = none ∧ s'.pc = 0#32 ∧ s'.draws = 1 := ⟨_, rfl, by decide +kernel⟩

/-! Witnesses: for each statement with hypotheses, a state or operand that meets all of them. The state has an input queue. -/

def withInputs (l : List Input) (s : State) : State := { s with inputs := l }
def s0 : State := st cfgA Env.plain 0#32 0#32 0x40000000#32
def sB : State := st cfgB eFp 0x40000000#32 0#32 0x40000000#32
def sStopped : State := { s0 with outcome := some (.hypTrap 0x08) }
/-- `VMSR FPEXC, r1` placed at `pc`, and `VMRS r0, FPEXC` placed there. -/
def sVmsr : State := s0.withFetchWord 32 0xEEE81A10
def sVmrs : State := { s0 with fpexc := 0x40000000#32 }.withFetchWord 32 0x0EF80A10

theorem witness_DecodeOfEncodeIsTheInstruction : (Instr.vmsrA32 0#4 14#4).wf = true ∧ (Instr.vmrsT32 0#4).wf = true := by decide
theorem witness_EncodeOfDecodeIsTheWord : decode .a32 0x0EF8EA10#32 = .ok (.vmrsA32 0#4 14#4) ∧
    decode .t32 0xEEE8EA10#32 = .ok (.vmsrT32 14#4) := by decide
/-- A word for each reason: outside the class, T32 with another condition, `cond = 1111`, another register, a should-be-zero bit,
`t = 15`. -/
theorem witness_RefusedWordsAreRefusedByName :
    0xE1A00000#32 &&& 0x0FE00F10#32 ≠ 0x0EE00A10#32 ∧
    ([0x0EF80A10#32, 0xFEF80A10#32, 0x0EF10A10#32, 0xDEF80A90#32, 0xEEF8FA10#32].all fun w : Word =>
      w &&& 0x0FE00F10#32 == 0x0EE00A10#32) = true ∧
    BitVec.extractLsb' 28 4 0x0EF80A10#32 ≠ 14#4 ∧ BitVec.extractLsb' 28 4 0xFEF80A10#32 = 15#4 ∧
    (BitVec.extractLsb' 28 4 0x0EF10A10#32 ≠ 15#4 ∧ BitVec.extractLsb' 16 4 0x0EF10A10#32 ≠ 8#4) ∧
    (BitVec.extractLsb' 28 4 0xDEF80A90#32 ≠ 15#4 ∧ BitVec.extractLsb' 16 4 0xDEF80A90#32 = 8#4 ∧
      0xDEF80A90#32 &&& 0x000000EF#32 ≠ 0#32) ∧
    (BitVec.extractLsb' 28 4 0xEEF8FA10#32 = 14#4 ∧ BitVec.extractLsb' 16 4 0xEEF8FA10#32 = 8#4 ∧
      0xEEF8FA10#32 &&& 0x000000EF#32 = 0#32 ∧ BitVec.extractLsb' 12 4 0xEEF8FA10#32 = 15#4) := by decide
theorem witness_StepRunsTheDecodedInstruction : sVmsr.inputs = [] ∧ sVmsr.outcome = none ∧
    progRead sVmsr.program sVmsr.pc.toNat = some 0xEEE81A10#32 ∧
    decode sVmsr.env.iset 0xEEE81A10#32 = .ok (.vmsrT32 1#4) ∧
    (withInputs [.instruction false] sVmsr).inputs = .instruction false :: [] := by
  decide
theorem witness_InputsComeFirstAndAnOutcomeEndsTheRun :
    (withInputs [.synchronise] sStopped).inputs = .synchronise :: [] ∧ sStopped.inputs = [] ∧
    (withInputs [.instruction true] sStopped).inputs = .instruction true :: [] ∧
    sStopped.outcome = some (.hypTrap 0x08) := by decide
theorem witness_PlacedWordIsTheNextInstruction : decodeTableWord 32 0x0EE80A10 = some (.vmsrA32 0#4 0#4) := by decide
theorem witness_AdmittedInstructionsAreNeverStuck : (Instr.vmrsA32 14#4 14#4).wf = true ∧ (Instr.vmsrT32 14#4).wf = true := by
  decide
theorem witness_IllFormedInstructionsAreRefused : (0#4 : BitVec 4) ≠ 15#4 ∧ (14#4 : BitVec 4) ≠ 15#4 := by decide

/-- An always-condition instruction at EL1 with everything enabled: the hypotheses of the completion of VMRS. -/
theorem witness_VmrsCompletesWithTheReadView :
    [Instr.vmrsA32 14#4 0#4, .vmrsA32 0#4 14#4, .vmrsT32 0#4, .vmrsT32 14#4].all (fun i =>
      i.wf && i.isRead && conditionHolds i s0.env) = true ∧ accessCheck s0.cfg s0.env = .ok := by decide
/-- At EL2 and EL3 too. -/
theorem witness_completion_at_EL2_and_EL3 : accessCheck cfgA eAtEL2 = .ok ∧ accessCheck cfgA eAtEL3 = .ok ∧
    conditionHolds (.vmrsA32 14#4 0#4) eAtEL2 = true ∧ conditionHolds (.vmsrT32 0#4) eAtEL3 = true := by decide
theorem witness_VmsrCompletesWithTheWriteMerge :
    [Instr.vmsrA32 14#4 1#4, .vmsrA32 0#4 1#4, .vmsrT32 1#4].all (fun i =>
      i.wf && !i.isRead && conditionHolds i s0.env && s0.x[i.rt.toNat]? == some 0x40000000#32) = true ∧
    (s0.cfg.enSync = .deferred ∧ s0.fpexc.getLsbD 30 ≠ BitVec.getLsbD 0x40000000#32 30) ∧
    accessCheck s0.cfg s0.env = .ok := by decide
theorem witness_FailedConditionOnlyAdvancesPc :
    [Instr.vmrsA32 0#4 0#4, .vmsrA32 13#4 14#4, .vmrsT32 0#4, .vmsrT32 14#4].all (fun i =>
      i.wf && !conditionHolds i eFails) = true := by decide
theorem witness_DeniedAccessRaisesItsOutcomeAndNothingElse :
    [Instr.vmrsA32 14#4 0#4, .vmsrA32 14#4 14#4, .vmrsT32 0#4, .vmsrT32 14#4].all (fun i =>
      i.wf && conditionHolds i eV2 && conditionHolds i eV9 && conditionHolds i eV15) = true ∧
    accessCheck cfgA eV2 = .undef .lineB ∧ accessCheck cEl2A64 eV9 = .trapA64 .el2 0x07 ∧
    accessCheck cEl2A32 eV15 = .hypTrap 0x08 := by decide
theorem witness_VmrsLeavesAllElseUnchanged : (Instr.vmrsA32 14#4 0#4).isRead = true ∧
    (∃ s', exec (.vmrsA32 14#4 0#4) s0 = .next s') ∧ (∃ s', exec (.vmrsT32 14#4) (st cfgA eV2 0#32 0#32 0#32) = .next s') :=
  ⟨rfl, ⟨_, rfl⟩, ⟨_, rfl⟩⟩
theorem witness_VmsrLeavesAllElseUnchanged : (Instr.vmsrA32 14#4 1#4).isRead = false ∧
    (∃ s', exec (.vmsrA32 14#4 1#4) s0 = .next s') ∧ (∃ s', exec (.vmsrT32 1#4) (st cfgA eV2 0#32 0#32 0#32) = .next s') ∧
    (wMask s0.cfg).getLsbD 0 = false := ⟨rfl, ⟨_, rfl⟩, ⟨_, rfl⟩, by decide⟩

/-- Clauses (a), (b) and (d) of R59. -/
theorem witness_AccessCheckInFixedConfigurations_abd :
    ({ cfgA with featAA32EL1 := false } : Config).featAA32EL1 = false ∧
    (cfgA.featAA32EL1 = true ∧ cfgA.haveEL3 = false ∧ cfgA.featAA32EL3 = false) ∧
    (eV2.el = .el0 ∧ eV2.el2Enabled = false ∧ eV2.el2IsInHost = false) ∧
    (Env.plain.el = .el1 ∧ Env.plain.el2Enabled = false ∧ Env.plain.el2IsInHost = false ∧ Env.plain.cpacrCp10 ≠ 0b00#2) ∧
    ({ Env.plain with cpacrCp10 := 0b00#2 } : Env).cpacrCp10 = 0b00#2 := by decide
/-- An environment where the NSACR term holds under `cEl3A32`. -/
def eNsterm : Env := { eEl3A32 with scrNs := 1#1, nsacrCp10 := 0#1 }
/-- Clause (c) of R59: no AArch64 above EL1, the NSACR term true and false, each level. -/
theorem witness_AccessCheckInFixedConfigurations_c :
    (cEl3A32.featAA32EL1 = true ∧ cEl3A32.featAA64EL2 = false ∧ cEl3A32.featAA64EL3 = false) ∧
    (cEl2A32.featAA32EL1 = true ∧ cEl2A32.featAA64EL2 = false ∧ cEl2A32.featAA64EL3 = false) ∧
    (eNsterm.el = .el1 ∧ cEl3A32.featAA32EL3 = true ∧ eNsterm.el3UsingAArch32 = true ∧ eNsterm.scrNs = 1#1 ∧
      eNsterm.nsacrCp10 = 0#1) ∧
    (eV15.el = .el1 ∧ eV15.cpacrCp10 ≠ 0b00#2 ∧ eV15.nsacrCp10 ≠ 0#1 ∧ eV15.el2Enabled = true ∧ cEl2A32.featAA32EL2 = true ∧
      eV15.el2UsingAArch32 = true ∧ eV15.hcptrTcp10 = 1#1) ∧
    (Env.plain.el = .el1 ∧ Env.plain.nsacrCp10 ≠ 0#1 ∧ Env.plain.el2Enabled ≠ true) ∧
    (eV22.el = .el2 ∧ eV22.el2Enabled = true ∧ eV22.hcptrTcp10 = 1#1) ∧
    (eAtEL2.el = .el2 ∧ eAtEL2.nsacrCp10 ≠ 0#1 ∧ eAtEL2.hcptrTcp10 ≠ 1#1) ∧ eAtEL3.el = .el3 ∧ eAtEL3.cpacrCp10 ≠ 0b00#2 ∧
    ({ eAtEL3 with cpacrCp10 := 0b00#2 } : Env).cpacrCp10 = 0b00#2 := by decide
/-- Line 1.3 and line 1.5, each with `CPTR_EL3.TFP` objecting under an EL3 using AArch64. -/
def eV20 : Env := { eV9 with cptrEl3Tfp := 1#1 }
def cHypEl3 : Config := { cEl3A64 with featAA32EL2 := true }
def eHypEl3 : Env := { eV15 with cptrEl3Tfp := 1#1 }
/-- R73: a trap to EL2 of line 1.5 wins over line 1.6, and `EL3SDDUndefPriority()` without an EL3 control changes nothing. -/
theorem test_R73_hyp_trap_beats_EL3 : accessCheck cHypEl3 eHypEl3 = .hypTrap 0x08 ∧
    accessCheck cHypEl3 { eV15 with el3SDDUndefPriority := true } = .hypTrap 0x08 ∧
    accessCheck cEl3A64 { Env.plain with el3SDDUndefPriority := true, cpacrCp10 := 0b00#2 } = .undef .line12 := by decide
/-- Every clause, with the EL3 control objecting where a trap to EL2 wins over it. -/
theorem witness_FirstConditionOfAccessCheckWins :
    ({ cfgA with featAA32EL1 := false } : Config).featAA32EL1 = false ∧ eV2.el = .el0 ∧
    (el3Objects cEl3A64 eTfp3 ∧ eTfp3.el = .el1 ∧ el3Objects cEl3A64 eV25 ∧ eV25.el = .el2) ∧
    (nsacrObjects cEl3A32 eNsterm ∧ eNsterm.el = .el1 ∧ eNsterm.el3SDDUndefPriority = false) ∧
    (el3Objects cEl23A64 eV20 ∧ eV20.el = .el1 ∧ eV20.el3SDDUndefPriority = false ∧ eV20.cpacrCp10 ≠ 0b00#2 ∧
      ¬ nsacrObjects cEl23A64 eV20 ∧ eV20.el2Enabled = true ∧ cEl23A64.featAA64EL2 = true ∧ eV20.el2UsingAArch32 = false ∧
      eV20.el2IsInHost = false ∧ eV20.cptrEl2Tfp = 1#1) ∧
    (eHost.el = .el1 ∧ eHost.el3SDDUndefPriority = false ∧ eHost.cpacrCp10 ≠ 0b00#2 ∧ ¬ nsacrObjects cEl2A64 eHost ∧
      eHost.el2UsingAArch32 = false ∧ eHost.el2IsInHost = true ∧
      ({ eHost with cptrEl2Fpen := 0b10#2 } : Env).cptrEl2Fpen = 0b10#2) ∧
    (el3Objects cHypEl3 eHypEl3 ∧ eHypEl3.el = .el1 ∧ eHypEl3.el3SDDUndefPriority = false ∧ eHypEl3.cpacrCp10 ≠ 0b00#2 ∧
      ¬ nsacrObjects cHypEl3 eHypEl3 ∧ eHypEl3.el2Enabled = true ∧ cHypEl3.featAA32EL2 = true ∧
      eHypEl3.el2UsingAArch32 = true ∧ eHypEl3.hcptrTcp10 = 1#1) ∧
    ({ Env.plain with cpacrCp10 := 0b00#2 } : Env).cpacrCp10 = 0b00#2 := by
  unfold el3Objects nsacrObjects; decide
theorem witness_TrapCodesAndTheirConditions : accessCheck cEl2A64 eV9 = .trapA64 .el2 0x07 ∧
    accessCheck cEl3A64 eTfp3 = .trapA64 .el3 0x07 ∧ accessCheck cEl3A64 eV25 = .trapA64 .el3 0x07 ∧
    accessCheck cEl2A32 eV15 = .hypTrap 0x08 ∧ accessCheck cfgA eV22 = .hypTrap 0x00 := by decide
/-- OK with AArch64 at EL2 and EL3 implemented, at each level. -/
theorem witness_AccessCheckAllowsExactly : accessCheck cEl23A64 eEl2A64 = .ok ∧ accessCheck cEl23A64 eAtEL2 = .ok ∧
    accessCheck cEl23A64 { Env.plain with el := .el3 } = .ok := by decide
theorem witness_AccessOutcomeDoesNotDependOnFPEXC : (∃ s1, exec (.vmrsA32 14#4 0#4) s0 = .next s1) ∧
    (∃ s1, exec (.vmsrT32 0#4) (st cfgA eV2 0#32 0#32 0#32) = .next s1) := ⟨⟨_, rfl⟩, ⟨_, rfl⟩⟩
theorem witness_AbsentRegisterIsUndefined : (Instr.vmrsT32 0#4).wf = true ∧ conditionHolds (.vmrsT32 0#4) Env.plain = true ∧
    (st { cfgA with featAA32EL1 := false } Env.plain 0#32 0#32 0#32).cfg.featAA32EL1 = false := by decide

theorem witness_EnReadsWritesAndResetsToZero :
    (∃ s', step (withInputs [.fpException (.trapped excDZ false false)] sB) = .next s') ∧
    (∃ s', step (withInputs [.unallocated] sB) = .next s') ∧
    (∃ s', step (withInputs [.warmReset s0.x 0#32 Env.plain] sB) = .next s') := ⟨⟨_, rfl⟩, ⟨_, rfl⟩, ⟨_, rfl⟩⟩
theorem witness_DexReadsAndWritesByConfiguration : dexRes0 cfgB = false ∧
    (cfgD.trapIde = false ∧ cfgD.trapIxe = false ∧ cfgD.trapUfe = false ∧ cfgD.trapOfe = false ∧ cfgD.trapDze = false ∧
      cfgD.trapIoe = false ∧ cfgD.lenStrideRaz = true ∧ cfgD.resStorage.getLsbD 29 = true) ∧
    cfgA.resStorage.getLsbD 29 = false := by decide
theorem witness_TfvReadsByKindAndIgnoresWrites :
    (trapAny cfgB = true ∧ cfgB.lenStrideRaz = false) ∧ (trapAny cfgC = true ∧ cfgC.lenStrideRaz = true) ∧
    (trapAny cfgF = false ∧ cfgF.lenStrideRaz = false) ∧ (trapAny cfgA = false ∧ cfgA.lenStrideRaz = true) := by decide
theorem witness_FlagBitsReadAndWriteByValidity : cfgE.trapIde = false ∧ cfgE.trapUfe = false ∧ cfgE.trapDze = true ∧
    cfgE.trapIoe = true := by decide
theorem witness_ReservedBitsAreHardwiredOrStored :
    [28, 27, 25, 11, 10, 8, 6, 5].all (fun n => cfgD.resStorage.getLsbD n && !cfgA.resStorage.getLsbD n) = true := by decide
theorem witness_DrawsReachOnlyStatusBits :
    0x04000000#32 &&& 0x0400009F#32 = 0x04000060#32 &&& 0x0400009F#32 := by decide
theorem witness_SaveClearRestoreIsExact : (readFPEXC cfgB 0x64000005#32 0#32).getLsbD 29 = true ∧
    (readFPEXC cfgB 0x64000005#32 0#32).getLsbD 26 = true := by decide +kernel
theorem witness_TwoReadsInARowAgreeOnFixedBits : (0#4 : BitVec 4) ≠ 14#4 ∧ accessCheck sB.cfg sB.env = .ok ∧
    ∃ s1 s2, exec (.vmrsA32 14#4 0#4) sB = .next s1 ∧ exec (.vmrsT32 14#4) s1 = .next s2 ∧
      (∃ a, s2.x[0]? = some a) ∧ ∃ b, s2.x[14]? = some b := ⟨by decide, rfl, _, _, rfl, rfl, ⟨_, rfl⟩, ⟨_, rfl⟩⟩
theorem witness_ReadAfterWriteSeesTheWrite : sB.x[1]? = some 0x40000000#32 ∧ dexRes0 sB.cfg = false ∧
    accessCheck sB.cfg sB.env = .ok ∧
    ∃ s1 s2, exec (.vmsrA32 14#4 1#4) sB = .next s1 ∧ exec (.vmrsT32 0#4) s1 = .next s2 ∧ ∃ r, s2.x[0]? = some r :=
  ⟨rfl, rfl, rfl, _, _, rfl, rfl, ⟨_, rfl⟩⟩

theorem witness_TrappedExceptionIsRecorded :
    sB.outcome = none ∧ fpCausePossible sB.cfg sB.env (.trapped excIOIX false false) = true ∧
    (sB.cfg.flagOverwrite = false) ∧
    fpCausePossible { sB.cfg with flagOverwrite := true } sB.env (.trapped excIOIX false false) = true := by decide
theorem witness_ShortVectorExceptionIsRecorded : sB.outcome = none ∧ sB.env.executingCp10or11 = true ∧
    sB.cfg.lenStrideRaz = false ∧ sB.env.fpscrStrideNonzero = true ∧
    ({ sB.env with fpscrStrideNonzero := false, fpscrLenNonzero := true } : Env).fpscrLenNonzero = true := by decide
theorem witness_UnallocatedExceptionIsRecorded : sB.outcome = none ∧ sB.env.executingCp10or11 = true ∧
    sB.cfg.dexClearOnUnalloc = false ∧
    ({ cfgB with dexClearOnUnalloc := true } : Config).dexClearOnUnalloc = true := by decide
/-- One impossible event of each kind of the statement, the unallocated encoding outside the space among them. -/
theorem witness_ImpossibleEventsAreRefused : s0.outcome = none ∧ s0.env.executingCp10or11 = false ∧
    s0.cfg.lenStrideRaz = true ∧ (cfgF.lenStrideRaz = false ∧ s0.env.fpscrStrideNonzero = false ∧
      s0.env.fpscrLenNonzero = false) ∧ noExc = ⟨false, false, false, false, false, false⟩ ∧
    (excIOIX.io = true ∧ cfgB.trapIoe = true ∧ s0.env.fpscrIoe = 0#1) ∧ (excDZ.dz = true ∧ cfgA.trapDze = false) ∧
    step (withInputs [.fpException (.trapped noExc false false)] sB) = .refused .impossibleInput :=
  ⟨rfl, rfl, rfl, ⟨rfl, rfl, rfl⟩, rfl, ⟨rfl, rfl, rfl⟩, ⟨rfl, rfl⟩, rfl⟩
theorem witness_SecondRecordMergesIntoTheFirst :
    ({ cfgB with flagOverwrite := true } : Config).flagOverwrite = true ∧ cfgB.flagOverwrite = false := by decide
theorem witness_HandlerDecodesTheRecordedCause :
    fpCausePossible cfgB eFp (.trapped excIOIX false false) = true ∧ 0x40000000#32 &&& mFlags &&& wMask cfgB = 0#32 ∧
    fpCausePossible cfgF eFp (.shortVector .vsub) = true ∧
    dexRes0 cfgD = true ∧ tfvKind cfgC = .raoWi ∧ tfvKind cfgF = .razWi ∧ BitVec.getLsbD 0x40000000#32 29 = false := by decide
theorem witness_ClearingWriteMeetsTheHandlerDuty : dexRes0 sB.cfg = false ∧ accessCheck sB.cfg sB.env = .ok ∧
    sB.x[1]? = some 0x40000000#32 ∧ BitVec.getLsbD 0x40000000#32 29 = false ∧ 0x40000000#32 &&& 0x0000009F#32 = 0#32 ∧
    ∃ s', exec (.vmsrT32 1#4) { sB with fpexc := 0x6400009F#32 } = .next s' :=
  ⟨rfl, rfl, rfl, rfl, rfl, _, rfl⟩

theorem witness_EffectiveEnAtEL0 : eHostEl0.el = .el0 ∧ ({ eV2 with el1UsingAArch64 := true } : Env).el1UsingAArch64 = true ∧
    (eHostEl0.el1UsingAArch64 = false ∧ eHostEl0.el2UsingAArch64 = true ∧ eHostEl0.el2Enabled = true ∧
      eHostEl0.hcrEl2Tge = 1#1 ∧ eHostEl0.hcrEl2Rw = 0#1) ∧ ({ eHostEl0 with hcrEl2Rw := 1#1 } : Env).hcrEl2Rw = 1#1 ∧
    cfgA.enEl0TgeRw0 = .written ∧ ({ cfgA with enEl0TgeRw0 := .one } : Config).enEl0TgeRw0 = .one := by decide
theorem witness_EffectiveEnElsewhereIsTheBit : Env.plain.el ≠ .el0 ∧ eAtEL3.el ≠ .el0 ∧
    (eV2.el = .el0 ∧ eV2.el1UsingAArch64 = false ∧ eV2.el2UsingAArch64 = false) ∧
    ({ eHostEl0 with hcrEl2Tge := 0#1 } : Env).hcrEl2Tge = 0#1 ∧
    ({ eHostEl0 with el2Enabled := false } : Env).el2Enabled = false := by decide
/-- EN is 0 and synchronised at EL0 (AArch32), EL1, EL2 and EL3, with a gated access and with exempt ones only. -/
theorem witness_ClosedGateIsUndefinedAtAllLevels : s0.outcome = none ∧
    [Env.plain, eV2, eAtEL2, eAtEL3].all (fun e => !effectiveEN cfgA e (enSeen { s0 with env := e })) = true ∧
    (∃ a ∈ [FPAccess.vmrs .mvfr2, .other (.q 15)], ∃ n, a = .other (.q n)) ∧
    (∀ a ∈ [FPAccess.vmsr .fpexc, .vmrs .mvfr2], a = .vmsr .fpexc ∨ a = .vmrs .mvfr2) := by decide
theorem witness_OpenGateRaisesNothing : sB.outcome = none ∧ effectiveEN sB.cfg sB.env (enSeen sB) = true ∧
    effectiveEN cfgA { eV2 with el1UsingAArch64 := true } (enSeen s0) = true := by decide
theorem witness_GatedAccessSeesOldOrNewEn : ({ cfgA with enSync := .immediate } : Config).enSync = .immediate ∧
    (∃ s', step (withInputs [.synchronise] { s0 with enOld := some true }) = .next s') ∧
    (s0.cfg.enSync = .deferred ∧ accessCheck s0.cfg s0.env = .ok ∧ s0.x[1]? = some 0x40000000#32 ∧
      BitVec.getLsbD 0x40000000#32 30 ≠ s0.fpexc.getLsbD 30 ∧ ∃ s', exec (.vmsrA32 14#4 1#4) s0 = .next s') ∧
    (sB.x[1]? = some 0x40000000#32 ∧ BitVec.getLsbD 0x40000000#32 30 = sB.fpexc.getLsbD 30 ∧ sB.enOld = none ∧
      ({ sB with enOld := some false } : State).enOld = some false) :=
  ⟨rfl, ⟨_, rfl⟩, ⟨rfl, rfl, rfl, by decide, _, rfl⟩, rfl, rfl, rfl, rfl⟩
theorem witness_WarmResetClosesTheGate :
    (withInputs [.warmReset s0.x 0#32 Env.plain, .gatedAccess [.other .fpscr]] sB).inputs =
      .warmReset s0.x 0#32 Env.plain :: .gatedAccess [.other .fpscr] :: [] ∧ Env.plain.el ≠ .el0 := by decide
theorem witness_EnablingWriteOpensTheGate : s0.x[1]? = some 0x40000000#32 ∧ BitVec.getLsbD 0x40000000#32 30 = true ∧
    s0.outcome = none ∧ accessCheck s0.cfg s0.env = .ok ∧ ∃ s1, exec (.vmsrT32 1#4) s0 = .next s1 := ⟨rfl, rfl, rfl, rfl, _, rfl⟩
theorem witness_WarmResetDrawsAllButEn :
    (withInputs [.warmReset s0.x 0#32 eV2] sStopped).inputs = .warmReset s0.x 0#32 eV2 :: [] := by decide
theorem witness_EnclosingModelTakesOver :
    (withInputs [.environment eAtEL3] s0).inputs = .environment eAtEL3 :: [] ∧
    (withInputs [.resume s0.x 0#32 eAtEL2] sStopped).inputs = .resume s0.x 0#32 eAtEL2 :: [] ∧
    (withInputs [.aarch64Write 0xFFFFFFFF#32] s0).inputs = .aarch64Write 0xFFFFFFFF#32 :: [] := by decide
theorem witness_NoInstructionRunsAfterAnOutcome : sStopped.outcome = some (.hypTrap 0x08) ∧
    (withInputs [.instruction true] sStopped).inputs = .instruction true :: [] ∧
    (withInputs [.gatedAccess [.other .fpscr]] sStopped).inputs = .gatedAccess [.other .fpscr] :: [] := by decide

/-- `S` changes by a VMSR at `pc` and by each of the inputs that may change it. -/
theorem witness_OnlyFourThingsChangeFPEXC :
    (∃ s', step sVmsr = .next s' ∧ s'.fpexc ≠ sVmsr.fpexc) ∧
    (∃ s', step (withInputs [.instruction true] sVmsr) = .next s' ∧ s'.fpexc ≠ sVmsr.fpexc) ∧
    (∃ s', step (withInputs [.aarch64Write 1#32] s0) = .next s' ∧ s'.fpexc ≠ s0.fpexc) ∧
    (∃ s', step (withInputs [.fpException (.shortVector .vabs)] sB) = .next s' ∧ s'.fpexc ≠ sB.fpexc) :=
  ⟨⟨_, rfl, by decide +kernel⟩, ⟨_, rfl, by decide +kernel⟩, ⟨_, rfl, by decide +kernel⟩, ⟨_, rfl, by decide +kernel⟩⟩
/-- R91, program P3: one completed VMSR is a good run; an instruction that raised is not, though the enclosing model goes on. -/
theorem test_R91_completed_run_is_good : ∃ s', goodRun 1 sVmsr s' := ⟨_, goodRun_one _ _ rfl rfl rfl rfl⟩
theorem test_R91_taken_over_run_is_not_good (s' : State) : ¬ goodRun 2
    (withInputs [.instruction true, .resume s0.x 0#32 eAtEL2] ({ s0 with env := eV2 }.withFetchWord 32 0xEEF80A10)) s' :=
  not_goodRun_of_ended 2 1 _ _ _ (by omega) rfl rfl
/-- Program P4: the exception of a recorded event, once handed over, does not end the run. -/
theorem test_P4_handed_over_exception_does_not_end_the_run :
    endedInOutcome { sB with outcome := some (.fpSyncException (.trapped excDZ false false)) } = false := rfl
theorem witness_OnlyVmrsChangesARegister :
    (∃ s', step sVmrs = .next s' ∧ s'.x[0]? ≠ sVmrs.x[0]?) ∧
    (∃ s', step (withInputs [.resume (regs 1#32 0#32) 0#32 Env.plain] s0) = .next s' ∧ s'.x[0]? ≠ s0.x[0]?) :=
  ⟨⟨_, rfl, by decide +kernel⟩, ⟨_, rfl, by decide +kernel⟩⟩
theorem witness_ConfigurationAndEnvironmentAreInputs :
    ∃ s', step (withInputs [.environment eAtEL3] s0) = .next s' ∧ s'.env ≠ s0.env := ⟨_, rfl, by decide +kernel⟩
theorem witness_EveryStepKeepsTheInvariant : inv sVmsr = true ∧ ∃ s', step sVmsr = .next s' := ⟨by decide, _, rfl⟩
/-- A run of one step at EL0 ends in the outcome of program P3. -/
theorem witness_UnprivilegedRunsNeverTouchFPEXC : ∃ s',
    Sys2Proof.core.run 1 (withInputs [.instruction true, .instruction false]
      ({ s0 with env := eV2, fpexc := 0x40000000#32 }.withFetchWord 32 0xEEF80A10)) = .next s' ∧
    s'.outcome = some (.undefined .lineB) := ⟨_, rfl, by decide +kernel⟩
/-- The second clause: every condition holds, and only instructions take turns. -/
theorem witness_UnprivilegedRunsAreNeverGood : eV2.el = .el0 ∧ eV2.conditionPassed = true ∧
    (∀ i ∈ [Input.instruction true], i = .instruction true) := by decide
theorem witness_HardwiredBitsNeverChangeInARun : noAArch64WriteToFPEXC (withInputs [.synchronise] sVmsr) = true ∧
    noWarmReset (withInputs [.synchronise] sVmsr) = true ∧
    ∃ s', Sys2Proof.core.run 2 (withInputs [.synchronise] sVmsr) = .next s' := ⟨by decide, by decide, _, rfl⟩

end Sys2Proof.Tests
end

section
/-! SUPPORT. An access that AccessCheck denies (R57), and the implementation without the register (R4). -/

namespace Sys2Proof.Machine

theorem checked_undef (f : State → State) (s : State) (l : UndefCause) (h : accessCheck s.cfg s.env = .undef l) :
    checked f s = raise (.undefined l) s := by
  unfold checked; rw [h]

/-- Line A comes first, before the Exception level is looked at (R57). -/
theorem accessCheck_absent (c : Config) (e : Env) (h : c.featAA32EL1 = false) : accessCheck c e = .undef .lineA := by
  simp [accessCheck, h]

/-- Where the permission check ends in `s'` whichever transfer it guards, both directions end in `s'`. -/
theorem exec_of_checked_eq (i : Instr) (s s' : State) (hw : i.wf = true) (hc : conditionHolds i s.env = true)
    (h : ∀ f, checked f s = s') : exec i s = .next s' := by
  cases hr : i.isRead
  · obtain ⟨v, hv⟩ := reg_of_wf i s hw
    rw [exec_write i s v hw hr hv, if_pos hc, h]
  · rw [exec_read i s hw hr, if_pos hc, h]

/-- Settles O21: line A of AccessCheck answers, so every form raises Undefined in place of its transfer. -/
theorem absentRegisterIsUndefined : Obligations.AbsentRegisterIsUndefined := by
  intro i s hw hc hfeat
  have hdenied : accessCheck s.cfg s.env = .undef .lineA := accessCheck_absent s.cfg s.env hfeat
  exact ⟨.lineA, exec_of_checked_eq i s _ hw hc fun f => checked_undef f s .lineA hdenied⟩

end Sys2Proof.Machine
end

section
/-! SUPPORT. The invariant: no step touches the program text or `P`, and under IMMEDIATE no step keeps an old EN (R43). -/

namespace Sys2Proof.Machine

theorem inv_iff (s : State) : inv s = true ↔
    progWf s.program = true ∧ configWf s.cfg = true ∧ (s.cfg.enSync = .immediate → s.enOld = none) := by
  cases h : s.cfg.enSync <;> simp [inv, h, and_assoc]

/-- A step keeps the configuration and the program text (R6, R91). -/
theorem step_keeps (s s' : State) (h : step s = .next s') : s'.cfg = s.cfg ∧ s'.program = s.program := by
  rcases step_cases s s' h with ⟨i, rest, -, -, happly⟩ | ⟨t, i, hruns, -, -, hexec⟩
  · obtain ⟨hcfg, hprog, -⟩ := applyInput_keeps i _ s' happly
    exact ⟨hcfg, hprog⟩
  · obtain ⟨hcfg, -, hprog, -⟩ := exec_keeps i t s' hexec
    obtain ⟨htcfg, -, -, -, -, -, htprog, -⟩ := instructionRunsIn_keeps s t hruns
    exact ⟨hcfg.trans htcfg, hprog.trans htprog⟩

/-- Under IMMEDIATE a change of EN records no old bit (R43). -/
theorem setFPEXC_enOld_of_immediate (v : Word) (s : State) (hi : s.cfg.enSync = .immediate) :
    (setFPEXC v s).enOld = s.enOld := by
  simp [setFPEXC_enOld, hi]

theorem exec_enOld_of_immediate (i : Instr) (s s' : State) (hi : s.cfg.enSync = .immediate) (h : exec i s = .next s') :
    s'.enOld = s.enOld := by
  rcases exec_next i s s' h with rfl | ⟨-, o, rfl⟩ | ⟨-, -, ⟨-, rfl⟩ | ⟨-, v, -, rfl⟩⟩
  · rfl
  · rfl
  · rfl
  · exact setFPEXC_enOld_of_immediate _ s hi

/-- Under IMMEDIATE no agent's turn brings in an old EN: it keeps what there is, or drops it (a synchronisation, a Warm reset). -/
theorem applyInput_enOld_of_immediate (i : Input) (s s' : State) (hi : s.cfg.enSync = .immediate)
    (h : applyInput i s = .next s') : s'.enOld = s.enOld ∨ s'.enOld = none := by
  cases i with
  | instruction p =>
    obtain ⟨-, j, -, hexec⟩ := runInstruction_next _ s' h
    exact .inl (exec_enOld_of_immediate j (withCondition p s) s' hi hexec)
  | environment e => cases h; exact .inl rfl
  | resume x pc e => cases h; exact .inl rfl
  | aarch64Write v => cases h; exact .inl (setFPEXC_enOld_of_immediate v s hi)
  | synchronise => cases h; exact .inr rfl
  | fpException c =>
    obtain ⟨-, rfl⟩ := inputFpException_next c s s' (whileRunning_next _ _ _ h).2
    exact .inl rfl
  | unallocated =>
    obtain ⟨-, rfl⟩ := inputUnallocated_next s s' (whileRunning_next _ _ _ h).2
    exact .inl rfl
  | gatedAccess l =>
    cases (whileRunning_next _ _ _ h).2
    rcases inputGatedAccess_cases l s with hs | hs <;> rw [hs] <;> exact .inl rfl
  | warmReset x pc e => cases h; exact .inr rfl

theorem step_enOld_none_of_immediate (s s' : State) (hi : s.cfg.enSync = .immediate) (hold : s.enOld = none)
    (h : step s = .next s') : s'.enOld = none := by
  rcases step_cases s s' h with ⟨i, rest, -, -, happly⟩ | ⟨t, i, hruns, -, -, hexec⟩
  · rcases applyInput_enOld_of_immediate i { s with inputs := rest } s' hi happly with hkept | hdropped
    · exact hkept.trans hold
    · exact hdropped
  · obtain ⟨htcfg, -, -, -, htold, -⟩ := instructionRunsIn_keeps s t hruns
    have hkept : s'.enOld = t.enOld := exec_enOld_of_immediate i t s' (by rw [htcfg, hi]) hexec
    rw [hkept, htold, hold]

/-- Settles O55: the first two parts are about fields no step writes; the third is that no step under IMMEDIATE records an old
EN. -/
theorem everyStepKeepsTheInvariant : Obligations.EveryStepKeepsTheInvariant := by
  intro s s' hinv hstep
  obtain ⟨hprog, hcfg, hold⟩ := (inv_iff s).1 hinv
  obtain ⟨hcfg', hprog'⟩ := step_keeps s s' hstep
  rw [inv_iff, hcfg', hprog']
  exact ⟨hprog, hcfg, fun hi => step_enOld_none_of_immediate s s' hi (hold hi) hstep⟩

/-- Settles O56: the reset state has an empty program text, configuration A, and no old EN. -/
theorem resetMeetsTheInvariant : Obligations.ResetMeetsTheInvariant := by
  have hcfg : configWf State.reset.cfg = true := by decide
  exact (inv_iff State.reset).2 ⟨rfl, hcfg, fun _ => rfl⟩

end Sys2Proof.Machine
end

section
/-! SUPPORT. What can change the storage behind FPEXC (R38): each writer's effect, and the bits no record or VMSR reaches. -/

namespace Sys2Proof.Machine

theorem mDEX_bit (n : Nat) : mDEX.getLsbD n = decide (n = 29) := by
  have h : mDEX = BitVec.twoPow 32 29 := by decide
  rw [h, BitVec.getLsbD_twoPow]
  simp [eq_comm]

theorem mTFV_bit (n : Nat) : mTFV.getLsbD n = decide (n = 26) := by
  have h : mTFV = BitVec.twoPow 32 26 := by decide
  rw [h, BitVec.getLsbD_twoPow]
  simp [eq_comm]

/-- Two words are equal under a mask where they agree on each of its bits. -/
theorem and_eq_and_of_bits {a b m : Word} (h : ∀ n < 32, m.getLsbD n = true → a.getLsbD n = b.getLsbD n) :
    a &&& m = b &&& m := by
  apply BitVec.eq_of_getLsbD_eq
  intro n hn
  rw [BitVec.getLsbD_and, BitVec.getLsbD_and]
  cases hm : m.getLsbD n
  · simp
  · simp [h n hn hm]

theorem bit_eq_of_and_eq_and {a b m : Word} (h : a &&& m = b &&& m) (n : Nat) (hm : m.getLsbD n = true) :
    a.getLsbD n = b.getLsbD n := by
  have hbit := congrArg (fun w => w.getLsbD n) h
  simpa only [BitVec.getLsbD_and, hm, Bool.and_true] using hbit

/-- The record of an `FPSyncException` reaches DEX, TFV and the flags only (R74). -/
theorem recordFP_bit_other (c : Config) (cause : FPCause) (S : Word) (n : Nat) (hn : n < 32) (hdex : n ≠ 29) (htfv : n ≠ 26)
    (hidf : n ≠ 7) (hflags : 4 < n) : (recordFP c cause S).getLsbD n = S.getLsbD n := by
  cases cause with
  | trapped X halfData halfFlushed =>
    have hX : (excMask X).getLsbD n = false := by
      rw [excMask_bit]; simp [hidf]; omega
    have hflag : ¬ n ≤ 4 := by omega
    refine (recordTrapped_bit c X S n hn).trans ?_
    simp [hX, beq_false_of_ne hdex, beq_false_of_ne htfv, beq_false_of_ne hidf, hflag]
  | shortVector by_ =>
    refine (recordShortVector_bit S n).trans ?_
    rw [mDEX_bit, mTFV_bit]
    simp [hn, hdex, htfv]

/-- The record of an exception from an unallocated encoding reaches DEX only (R75). -/
theorem recordUnallocated_bit_other (c : Config) (S : Word) (n : Nat) (hn : n < 32) (hdex : n ≠ 29) :
    (recordUnallocated c S).getLsbD n = S.getLsbD n := by
  simp [recordUnallocated_bit c S n hn, mDEX_bit, hdex]

/-- What a turn of another agent leaves in the storage `S` of state `s`, for the turns that write it (R38). -/
def inputWrites (s : State) (S' : Word) : Input → Prop
  | .aarch64Write v => S' = v
  | .fpException cause => S' = recordFP s.cfg cause s.fpexc
  | .unallocated => S' = recordUnallocated s.cfg s.fpexc
  | .warmReset _ _ _ => S' = nextDraw s &&& ~~~mEN
  | .instruction _ => False
  | .environment _ => False
  | .resume _ _ _ => False
  | .synchronise => False
  | .gatedAccess _ => False

/-- What another agent's turn can change of `S`, `x` and `E`: each is kept, but for the writers of `S` and the turns that supply
new registers or a new `E`. -/
theorem applyInput_changes (i : Input) (s s' : State) (hi : isInstruction i = false) (h : applyInput i s = .next s') :
    (s'.fpexc = s.fpexc ∨ inputWrites s s'.fpexc i) ∧
    (s'.x = s.x ∨ ∃ x pc e, i = .resume x pc e ∨ i = .warmReset x pc e) ∧
    (s'.env = s.env ∨
      ((∃ e, i = .environment e) ∨ (∃ x pc e, i = .resume x pc e) ∨ (∃ x pc e, i = .warmReset x pc e))) := by
  cases i with
  | instruction p => cases hi
  | environment e => cases h; exact ⟨.inl rfl, .inl rfl, .inr (.inl ⟨e, rfl⟩)⟩
  | resume x pc e => cases h; exact ⟨.inl rfl, .inr ⟨x, pc, e, .inl rfl⟩, .inr (.inr (.inl ⟨x, pc, e, rfl⟩))⟩
  | aarch64Write v => cases h; exact ⟨.inr (setFPEXC_fpexc v s), .inl (setFPEXC_x v s), .inl (setFPEXC_env v s)⟩
  | synchronise => cases h; exact ⟨.inl rfl, .inl rfl, .inl rfl⟩
  | fpException cause =>
    obtain ⟨-, rfl⟩ := inputFpException_next cause s s' (whileRunning_next _ _ _ h).2
    exact ⟨.inr rfl, .inl rfl, .inl rfl⟩
  | unallocated =>
    obtain ⟨-, rfl⟩ := inputUnallocated_next s s' (whileRunning_next _ _ _ h).2
    exact ⟨.inr rfl, .inl rfl, .inl rfl⟩
  | gatedAccess l =>
    cases (whileRunning_next _ _ _ h).2
    rcases inputGatedAccess_cases l s with hs | hs <;> rw [hs] <;> exact ⟨.inl rfl, .inl rfl, .inl rfl⟩
  | warmReset x pc e =>
    cases h; exact ⟨.inr rfl, .inr ⟨x, pc, e, .inr rfl⟩, .inr (.inr (.inr ⟨x, pc, e, rfl⟩))⟩

/-- An instruction keeps `S` or is a VMSR that completes (R38, R56). -/
theorem exec_fpexc (i : Instr) (s s' : State) (h : exec i s = .next s') :
    s'.fpexc = s.fpexc ∨
    (accessCheck s.cfg s.env = .ok ∧ i.isRead = false ∧ conditionHolds i s.env = true ∧
      ∃ v, s.x[i.rt.toNat]? = some v ∧ s'.fpexc = writeFPEXC s.cfg s.fpexc v) := by
  rcases exec_next i s s' h with rfl | ⟨-, o, rfl⟩ | ⟨hcond, haccess, ⟨-, rfl⟩ | ⟨hwrite, v, hv, rfl⟩⟩
  · exact .inl rfl
  · exact .inl rfl
  · exact .inl rfl
  · exact .inr ⟨haccess, hwrite, hcond, v, hv, writeTransfer_fpexc v s⟩

/-- An instruction's turn does not change what AccessCheck answers. -/
theorem instructionRunsIn_accessCheck (s t : State) (h : instructionRunsIn s t) :
    accessCheck t.cfg t.env = accessCheck s.cfg s.env := by
  obtain ⟨hcfg, -, -, -, -, -, -, -, henv, -⟩ := instructionRunsIn_keeps s t h
  rw [hcfg, henv, accessCheck_conditionPassed]

/-- The instruction fetched in its turn is the one decoded at `pc` before it. -/
theorem instructionRunsIn_fetch (s t : State) (i : Instr) (h : instructionRunsIn s t) (hfetch : fetch t = .ok i) :
    ∃ w, progRead s.program s.pc.toNat = some w ∧ decode s.env.iset w = .ok i := by
  obtain ⟨-, -, -, hpc, -, -, hprogram, -, henv, -⟩ := instructionRunsIn_keeps s t h
  obtain ⟨w, hw, hdecode⟩ := fetch_ok t i hfetch
  rw [hprogram, hpc] at hw
  rw [henv] at hdecode
  exact ⟨w, hw, hdecode⟩

/-- What a step can do to `S` (R38): nothing, the write of another agent's turn, or that of the VMSR at `pc`. -/
theorem step_fpexc (s s' : State) (h : step s = .next s') :
    s'.fpexc = s.fpexc ∨ (∃ i rest, s.inputs = i :: rest ∧ inputWrites s s'.fpexc i) ∨
    (∃ t, instructionRunsIn s t ∧ accessCheck s.cfg s.env = .ok ∧
      ∃ w i v, progRead s.program s.pc.toNat = some w ∧ decode s.env.iset w = .ok i ∧ i.isRead = false ∧
        conditionHolds i t.env = true ∧ s.x[i.rt.toNat]? = some v ∧ s'.fpexc = writeFPEXC s.cfg s.fpexc v) := by
  rcases step_cases s s' h with ⟨i, rest, hinputs, hi, happly⟩ | ⟨t, i, hruns, -, hfetch, hexec⟩
  · obtain ⟨hkept | hwrites, -⟩ := applyInput_changes i { s with inputs := rest } s' hi happly
    · exact .inl hkept
    · exact .inr (.inl ⟨i, rest, hinputs, by cases i <;> exact hwrites⟩)
  · obtain ⟨hcfg, hfpexc, hx, -⟩ := instructionRunsIn_keeps s t hruns
    rcases exec_fpexc i t s' hexec with hkept | ⟨haccess, hwrite, hcond, v, hv, hwritten⟩
    · exact .inl (hkept.trans hfpexc)
    · obtain ⟨w, hw, hdecode⟩ := instructionRunsIn_fetch s t i hruns hfetch
      rw [instructionRunsIn_accessCheck s t hruns] at haccess
      rw [hx] at hv
      rw [hcfg, hfpexc] at hwritten
      exact .inr (.inr ⟨t, hruns, haccess, w, i, v, hw, hdecode, hwrite, hcond, hv, hwritten⟩)

/-- Settles O52: by what a step can do to `S`, with the turns that write it named. -/
theorem onlyFourThingsChangeFPEXC : Obligations.OnlyFourThingsChangeFPEXC := by
  intro s s' hstep hchanged
  rcases step_fpexc s s' hstep with hkept | ⟨i, rest, hinputs, hwrites⟩ | hvmsr
  · exact absurd hkept hchanged
  · refine .inl ⟨rest, ?_⟩
    cases i with
    | aarch64Write v => exact .inl ⟨v, hinputs⟩
    | fpException cause => exact .inr (.inl ⟨cause, hinputs⟩)
    | unallocated => exact .inr (.inr (.inl hinputs))
    | warmReset x pc e => exact .inr (.inr (.inr ⟨x, pc, e, hinputs⟩))
    | instruction p => cases hwrites
    | environment e => cases hwrites
    | resume x pc e => cases hwrites
    | synchronise => cases hwrites
    | gatedAccess l => cases hwrites
  · exact .inr hvmsr

end Sys2Proof.Machine
end

section
/-! SUPPORT. Runs without a write through FPEXC32_EL2 and without a Warm reset: the bits of `S` that neither a VMSR nor a record
reaches (R31, R74, R75). -/

namespace Sys2Proof.Machine

/-- Where the fixed bits stand: outside WMASK, and at neither DEX, TFV nor a flag. -/
theorem fixedBits_bit (c : Config) (n : Nat) (hn : n < 32) (h : (fixedBits c).getLsbD n = true) :
    (wMask c).getLsbD n = false ∧ n ≠ 29 ∧ n ≠ 26 ∧ n ≠ 7 ∧ 4 < n := by
  have hflags : ∀ k < 32, mFlags.getLsbD k = false → k ≠ 7 ∧ 4 < k := by decide
  simp only [fixedBits, BitVec.getLsbD_not, BitVec.getLsbD_or, mDEX_bit, mTFV_bit, Bool.and_eq_true, Bool.not_eq_true',
    Bool.or_eq_false_iff, decide_eq_false_iff_not] at h
  obtain ⟨-, ⟨⟨hmask, hdex⟩, htfv⟩, hflag⟩ := h
  exact ⟨hmask, hdex, htfv, hflags n hn hflag⟩

theorem writeFPEXC_and_fixedBits (c : Config) (S v : Word) : writeFPEXC c S v &&& fixedBits c = S &&& fixedBits c :=
  and_eq_and_of_bits fun n hn h => by
    obtain ⟨hmask, -⟩ := fixedBits_bit c n hn h
    rw [writeFPEXC_bit, hmask, if_neg Bool.false_ne_true]

theorem recordFP_and_fixedBits (c : Config) (cause : FPCause) (S : Word) :
    recordFP c cause S &&& fixedBits c = S &&& fixedBits c :=
  and_eq_and_of_bits fun n hn h => by
    obtain ⟨-, hdex, htfv, hidf, hflags⟩ := fixedBits_bit c n hn h
    exact recordFP_bit_other c cause S n hn hdex htfv hidf hflags

theorem recordUnallocated_and_fixedBits (c : Config) (S : Word) :
    recordUnallocated c S &&& fixedBits c = S &&& fixedBits c :=
  and_eq_and_of_bits fun n hn h => by
    obtain ⟨-, hdex, -⟩ := fixedBits_bit c n hn h
    exact recordUnallocated_bit_other c S n hn hdex

/-- A step takes at most the oldest turn from the queue and adds none. -/
theorem step_inputs (s s' : State) (h : step s = .next s') : s'.inputs = s.inputs.tail := by
  rcases step_cases s s' h with ⟨i, rest, hinputs, -, happly⟩ | ⟨t, i, hruns, -, -, hexec⟩
  · rw [(applyInput_keeps i _ s' happly).2.2, hinputs, List.tail_cons]
  · obtain ⟨-, -, -, hinputs⟩ := exec_keeps i t s' hexec
    obtain ⟨-, -, -, -, -, -, -, -, -, htail⟩ := instructionRunsIn_keeps s t hruns
    rw [hinputs, htail]

theorem step_inputs_all (p : Input → Bool) (s s' : State) (hall : s.inputs.all p = true) (h : step s = .next s') :
    s'.inputs.all p = true := by
  rw [step_inputs s s' h]
  rw [List.all_eq_true] at hall ⊢
  exact fun i hi => hall i (List.mem_of_mem_tail hi)

theorem head_of_all {p : Input → Bool} {s : State} {i : Input} {rest : List Input} (hall : s.inputs.all p = true)
    (h : s.inputs = i :: rest) : p i = true := by
  rw [h, List.all_cons, Bool.and_eq_true] at hall
  exact hall.1

/-- Without the two writers that make all of `S` new, a step keeps the fixed bits. -/
theorem step_fixedBits (s s' : State) (haarch64 : noAArch64WriteToFPEXC s = true) (hreset : noWarmReset s = true)
    (h : step s = .next s') : s'.fpexc &&& fixedBits s.cfg = s.fpexc &&& fixedBits s.cfg := by
  rcases step_fpexc s s' h with hkept | ⟨i, rest, hinputs, hwrites⟩ | ⟨t, -, -, w, i, v, -, -, -, -, -, hwritten⟩
  · rw [hkept]
  · have hnotAArch64 : (!isAArch64Write i) = true := head_of_all haarch64 hinputs
    have hnotReset : (!isWarmReset i) = true := head_of_all hreset hinputs
    cases i with
    | aarch64Write v => cases hnotAArch64
    | warmReset x pc e => cases hnotReset
    | fpException cause =>
      have hrecord : s'.fpexc = recordFP s.cfg cause s.fpexc := hwrites
      rw [hrecord, recordFP_and_fixedBits]
    | unallocated =>
      have hrecord : s'.fpexc = recordUnallocated s.cfg s.fpexc := hwrites
      rw [hrecord, recordUnallocated_and_fixedBits]
    | instruction p => cases hwrites
    | environment e => cases hwrites
    | resume x pc e => cases hwrites
    | synchronise => cases hwrites
    | gatedAccess l => cases hwrites
  · rw [hwritten, writeFPEXC_and_fixedBits]

/-- Settles O58, by induction on the length of the run: a step keeps the fixed bits, `P`, and both premises on the queue. -/
theorem hardwiredBitsNeverChangeInARun : Obligations.HardwiredBitsNeverChangeInARun := by
  intro k
  induction k with
  | zero =>
    intro s s' _ _ hrun
    cases hrun
    rfl
  | succ k ih =>
    intro s s' haarch64 hreset hrun
    obtain ⟨s1, hstep, hrest⟩ := run_succ k s s' hrun
    have hcfg : s1.cfg = s.cfg := (step_keeps s s1 hstep).1
    have hfirst := step_fixedBits s s1 haarch64 hreset hstep
    have hlater := ih s1 s' (step_inputs_all _ s s1 haarch64 hstep) (step_inputs_all _ s s1 hreset hstep) hrest
    rw [hcfg] at hlater
    exact hlater.trans hfirst

end Sys2Proof.Machine
end

section
/-! SUPPORT. What can change a general-purpose register, `P` and `E` (R34, R35, R55). -/

namespace Sys2Proof.Machine

/-- An instruction that changes `x[r]` is a VMRS to `r` that completes. -/
theorem exec_x (i : Instr) (s s' : State) (r : Nat) (h : exec i s = .next s') :
    s'.x[r]? = s.x[r]? ∨
    (accessCheck s.cfg s.env = .ok ∧ i.isRead = true ∧ conditionHolds i s.env = true ∧ i.rt.toNat = r) := by
  rcases exec_next i s s' h with rfl | ⟨-, o, rfl⟩ | ⟨hcond, haccess, ⟨hread, rfl⟩ | ⟨-, v, -, rfl⟩⟩
  · exact .inl rfl
  · exact .inl rfl
  · by_cases hr : i.rt.toNat = r
    · exact .inr ⟨haccess, hread, hcond, hr⟩
    · exact .inl (writeX_other i.rt _ s r (Ne.symm hr))
  · exact .inl (by rw [writeTransfer_x])

/-- Settles O53: another agent's turn changes `x` by supplying it whole, an instruction by the transfer of a VMRS. -/
theorem onlyVmrsChangesARegister : Obligations.OnlyVmrsChangesARegister := by
  intro s s' r hstep hchanged
  rcases step_cases s s' hstep with ⟨i, rest, hinputs, hi, happly⟩ | ⟨t, i, hruns, -, hfetch, hexec⟩
  · obtain ⟨-, hkept | ⟨x, pc, e, rfl | rfl⟩, -⟩ := applyInput_changes i { s with inputs := rest } s' hi happly
    · exact absurd (by rw [hkept]) hchanged
    · exact .inl ⟨x, pc, e, rest, .inl hinputs⟩
    · exact .inl ⟨x, pc, e, rest, .inr hinputs⟩
  · obtain ⟨-, -, hx, -⟩ := instructionRunsIn_keeps s t hruns
    rcases exec_x i t s' r hexec with hkept | ⟨haccess, hread, hcond, hr⟩
    · exact absurd (by rw [hkept, hx]) hchanged
    · obtain ⟨w, hw, hdecode⟩ := instructionRunsIn_fetch s t i hruns hfetch
      rw [instructionRunsIn_accessCheck s t hruns] at haccess
      exact .inr ⟨t, hruns, haccess, w, i, hw, hdecode, hread, hr, hcond⟩

/-- Settles O54: no instruction writes `E`, so what changed is what its turn supplied; another agent's turn supplies `E` or keeps
it. -/
theorem configurationAndEnvironmentAreInputs : Obligations.ConfigurationAndEnvironmentAreInputs := by
  intro s s' hstep
  refine ⟨(step_keeps s s' hstep).1, fun hchanged => ?_⟩
  rcases step_cases s s' hstep with ⟨i, rest, hinputs, hi, happly⟩ | ⟨t, i, hruns, -, -, hexec⟩
  · obtain ⟨-, -, hkept | henv | hresume | hreset⟩ := applyInput_changes i { s with inputs := rest } s' hi happly
    · exact absurd hkept hchanged
    · exact ⟨i, rest, hinputs, .inl henv⟩
    · exact ⟨i, rest, hinputs, .inr (.inl hresume)⟩
    · exact ⟨i, rest, hinputs, .inr (.inr (.inl hreset))⟩
  · obtain ⟨-, henv, -⟩ := exec_keeps i t s' hexec
    rcases hruns with ⟨-, rfl⟩ | ⟨passed, rest, hinputs, rfl⟩
    · exact absurd henv hchanged
    · exact ⟨.instruction passed, rest, hinputs, .inr (.inr (.inr ⟨passed, rfl, henv⟩))⟩

end Sys2Proof.Machine
end

section
/-! SUPPORT. The fields of FPEXC (R11 to R28): what the read view gives in each and whether WMASK holds it (R30, R31). -/

namespace Sys2Proof.Machine

theorem readEx_bit (c : Config) (S u : Word) : (readFPEXC c S u).getLsbD 31 = false := by rw [readFPEXC_bit]; rfl

theorem readEn_bit (c : Config) (S u : Word) : (readFPEXC c S u).getLsbD 30 = S.getLsbD 30 := by rw [readFPEXC_bit]; rfl

theorem wMask_en (c : Config) : (wMask c).getLsbD 30 = true := by rw [wMask_bit]; rfl

theorem wMask_dex (c : Config) : (wMask c).getLsbD 29 = (!dexRes0 c || c.resStorage.getLsbD 29) := by rw [wMask_bit]; rfl

/-- `n` is the place of a reserved bit: RES0 (R16, R17, R20, R23) or RES1 (R21). -/
def isReservedBit (n : Nat) : Prop :=
  (n = 28 ∨ n = 27 ∨ (11 ≤ n ∧ n ≤ 25) ∨ n = 6 ∨ n = 5) ∨ (8 ≤ n ∧ n ≤ 10)

theorem mReserved_of_isReservedBit (n : Nat) (h : isReservedBit n) : mReserved.getLsbD n = true := by
  have hall : ∀ k < 29, (k = 28 ∨ k = 27 ∨ (11 ≤ k ∧ k ≤ 25) ∨ k = 6 ∨ k = 5) ∨ (8 ≤ k ∧ k ≤ 10) →
      mReserved.getLsbD k = true := by decide
  have hn : n < 29 := by unfold isReservedBit at h; omega
  exact hall n hn h

theorem wMask_reserved (c : Config) (n : Nat) (h : isReservedBit n) : (wMask c).getLsbD n = c.resStorage.getLsbD n := by
  have hn : n ≠ 30 ∧ n ≠ 29 := by unfold isReservedBit at h; omega
  rw [wMask_bit, wMaskBit, if_neg hn.1, if_neg hn.2, if_pos (mReserved_of_isReservedBit n h)]

/-- A reserved bit of a read: the stored one where storage backs it, else 0, or 1 where it is RES1 (R30, R32). -/
theorem reservedBit_read (c : Config) (S u : Word) (n : Nat) (h : isReservedBit n) : (readFPEXC c S u).getLsbD n =
    if c.resStorage.getLsbD n then S.getLsbD n else decide (8 ≤ n ∧ n ≤ 10) := by
  rw [readFPEXC_bit]
  rcases h with (rfl | rfl | ⟨hlow, hhigh⟩ | rfl | rfl) | ⟨hlow, hhigh⟩
  · rfl
  · rfl
  · have hread : readBit c S u n = res0 c S n := by
      unfold readBit
      iterate 6 rw [if_neg (by omega)]
      rw [if_pos hlow]
    have hres0 : ¬ (8 ≤ n ∧ n ≤ 10) := by omega
    rw [hread, res0, decide_eq_true (show n < 32 by omega), decide_eq_false hres0, Bool.true_and]
  · rfl
  · rfl
  · have hread : readBit c S u n = res1 c S n := by
      unfold readBit
      iterate 7 rw [if_neg (by omega)]
      rw [if_pos hlow]
    rw [hread, res1, decide_eq_true (show n < 32 by omega), decide_eq_true (And.intro hlow hhigh), Bool.true_and]

theorem isFlagBit_place {c : Config} {n : Nat} {impl : Bool} (h : isFlagBit c n impl) : n = 7 ∨ n ≤ 4 := by
  unfold isFlagBit at h; omega

/-- Every bit of FPEXC belongs to one of its fields (R10). -/
theorem bit_field (c : Config) (n : Nat) (hn : n < 32) :
    n = 31 ∨ n = 30 ∨ n = 29 ∨ n = 26 ∨ isReservedBit n ∨ ∃ impl, isFlagBit c n impl := by
  have hplace : n = 31 ∨ n = 30 ∨ n = 29 ∨ n = 26 ∨ isReservedBit n ∨
      n = 7 ∨ n = 4 ∨ n = 3 ∨ n = 2 ∨ n = 1 ∨ n = 0 := by unfold isReservedBit; omega
  rcases hplace with h | h | h | h | h | hflag
  · exact .inl h
  · exact .inr (.inl h)
  · exact .inr (.inr (.inl h))
  · exact .inr (.inr (.inr (.inl h)))
  · exact .inr (.inr (.inr (.inr (.inl h))))
  · refine .inr (.inr (.inr (.inr (.inr ?_))))
    rcases hflag with rfl | rfl | rfl | rfl | rfl | rfl <;> simp [isFlagBit]

/-- Two reads are equal where the fields they are made of are: EN, DEX, TFV, the reserved bits and the flags (R30). -/
theorem readFPEXC_eq_of_fields {c : Config} {S S' u u' : Word} (hen : S.getLsbD 30 = S'.getLsbD 30)
    (hdex : readDex c S = readDex c S') (htfv : readTfv c S u = readTfv c S' u')
    (hreserved : ∀ n, isReservedBit n → S.getLsbD n = S'.getLsbD n)
    (hflags : ∀ n impl, isFlagBit c n impl → readFlag c S u n impl = readFlag c S' u' n impl) :
    readFPEXC c S u = readFPEXC c S' u' := by
  apply BitVec.eq_of_getLsbD_eq
  intro n hn
  rcases bit_field c n hn with rfl | rfl | rfl | rfl | hr | ⟨impl, hf⟩
  · rw [readEx_bit, readEx_bit]
  · rw [readEn_bit, readEn_bit, hen]
  · rw [readDex_bit, readDex_bit, hdex]
  · rw [readTfv_bit, readTfv_bit, htfv]
  · rw [reservedBit_read c S u n hr, reservedBit_read c S' u' n hr, hreserved n hr]
  · rw [(flagBit_read c S u n impl hf).1, (flagBit_read c S' u' n impl hf).1, hflags n impl hf]

/-- No read depends on the storage of EX (R11). -/
theorem readFPEXC_congr_storage {c : Config} {S S' u : Word} (h : ∀ n < 31, S.getLsbD n = S'.getLsbD n) :
    readFPEXC c S u = readFPEXC c S' u := by
  have hdex : readDex c S = readDex c S' := by simp only [readDex, res0, h 29 (by omega)]
  have htfv : readTfv c S u = readTfv c S' u := by simp only [readTfv, hdex, h 26 (by omega)]
  refine readFPEXC_eq_of_fields (h 30 (by omega)) hdex htfv (fun n hn => ?_) (fun n impl hf => ?_)
  · exact h n (by unfold isReservedBit at hn; omega)
  · have hn : n < 31 := by have := isFlagBit_place hf; omega
    simp only [readFlag, hdex, htfv, h n hn]

/-- Settles O22: EX reads 0, WMASK does not hold it, and the other fields do not look at it. -/
theorem exReadsZeroAndIgnoresWrites : Obligations.ExReadsZeroAndIgnoresWrites := by
  intro c S u v
  refine ⟨readEx_bit c S u, ?_, readFPEXC_congr_storage fun n hn => ?_⟩
  · rw [writeFPEXC_bit, (wMask_fixed c).1, if_neg Bool.false_ne_true]
  · have hex : ∀ k < 31, (0x80000000#32).getLsbD k = false := by decide
    rw [BitVec.getLsbD_xor, hex n hn, Bool.xor_false]

/-- Settles O23: no record reaches bit 30, and a Warm reset clears it in whatever is drawn. -/
theorem enReadsWritesAndResetsToZero : Obligations.EnReadsWritesAndResetsToZero := by
  refine ⟨fun c S u v => ⟨readEn_bit c S u, ?_⟩, fun s s' i rest hinputs hi hstep => ?_,
    fun s s' x pc e rest hinputs hstep => ?_⟩
  · rw [writeFPEXC_bit, wMask_en, if_pos rfl]
  · rw [step_input s i rest hinputs] at hstep
    rcases hi with ⟨cause, rfl⟩ | rfl
    · obtain ⟨-, rfl⟩ := inputFpException_next cause _ s' (whileRunning_next _ _ _ hstep).2
      exact recordFP_bit_other s.cfg cause s.fpexc 30 (by omega) (by omega) (by omega) (by omega) (by omega)
    · obtain ⟨-, rfl⟩ := inputUnallocated_next _ s' (whileRunning_next _ _ _ hstep).2
      exact recordUnallocated_bit_other s.cfg s.fpexc 30 (by omega) (by omega)
  · rw [step_input s _ rest hinputs] at hstep
    cases hstep
    have hcleared : (~~~mEN).getLsbD 30 = false := by decide
    rw [inputWarmReset_fpexc, BitVec.getLsbD_and, hcleared, Bool.and_false]

/-- Where no exception can be trapped and Len and Stride are RAZ, no cause of R74 can arise. -/
theorem fpCausePossible_of_dexRes0 (c : Config) (e : Env) (cause : FPCause) (htrap : trapAny c = false)
    (hraz : c.lenStrideRaz = true) : fpCausePossible c e cause = false := by
  cases cause with
  | trapped X halfData halfFlushed =>
    rw [Bool.eq_false_iff]
    intro hpossible
    obtain ⟨hsome, hid, hix, huf, hof, hdz, hio⟩ := fpCausePossible_trapped c e X halfData halfFlushed hpossible
    simp only [trapAny, Bool.or_eq_false_iff] at htrap
    simp_all [excNonempty]
  | shortVector by_ => simp [fpCausePossible, hraz]

/-- Settles O24: DEX is stored where it is live; where it is RES0 its storage decides, and no event sets it. -/
theorem dexReadsAndWritesByConfiguration : Obligations.DexReadsAndWritesByConfiguration := by
  intro c S u v
  rw [readDex_bit, writeFPEXC_bit, wMask_dex]
  refine ⟨fun hlive => ?_, fun hide hixe hufe hofe hdze hioe hraz => ?_⟩
  · simp [readDex, hlive]
  · have htrap : trapAny c = false := by simp [trapAny, hide, hixe, hufe, hofe, hdze, hioe]
    have hres0 : dexRes0 c = true := by simp [dexRes0, htrap, hraz]
    refine ⟨fun hstored => ?_, fun hhardwired => ?_, fun e cause => fpCausePossible_of_dexRes0 c e cause htrap hraz,
      fun hclear => ?_⟩
    · rw [readDex, res0, hres0, hstored]; exact ⟨rfl, rfl⟩
    · rw [readDex, res0, hres0, hhardwired]; exact ⟨rfl, rfl⟩
    · rw [recordUnallocated_bit c S 29 (by omega), hclear, Bool.false_and]

/-- Settles O25, row by row of R19's table. -/
theorem tfvReadsByKindAndIgnoresWrites : Obligations.TfvReadsByKindAndIgnoresWrites := by
  intro c S u v anyTrap hany
  have htrap : trapAny c = anyTrap := hany.symm
  rw [writeFPEXC_bit, (wMask_fixed c).2, readTfv_bit]
  refine ⟨rfl, ?_, ?_, ?_, ?_⟩
  · intro ht hraz
    have hdex : readDex c S = S.getLsbD 29 := by simp [readDex, dexRes0, htrap, ht]
    simp only [readTfv, tfvKind, htrap, ht, hraz, hdex]
  · intro ht hraz
    simp only [readTfv, tfvKind, htrap, ht, hraz]
  · intro ht hraz
    simp only [readTfv, tfvKind, htrap, ht, hraz]
  · intro ht hraz
    cases hoverlap : c.tfvOverlap <;> simp [readTfv, tfvKind, htrap, ht, hraz, hoverlap]

/-- Settles O26: WMASK holds a flag exactly where its trapping is implemented, and the read asks DEX and TFV of the same read. -/
theorem flagBitsReadAndWriteByValidity : Obligations.FlagBitsReadAndWriteByValidity := by
  intro c S u v n impl hflag
  obtain ⟨hread, hmask⟩ := flagBit_read c S u n impl hflag
  rw [hread, writeFPEXC_bit, hmask, readDex_bit, readTfv_bit]
  constructor
  · rintro rfl
    exact ⟨rfl, rfl⟩
  · rintro rfl
    exact ⟨rfl, rfl⟩

/-- Settles O27: storage decides both what a reserved bit reads and whether WMASK holds it. -/
theorem reservedBitsAreHardwiredOrStored : Obligations.ReservedBitsAreHardwiredOrStored := by
  intro c S u v n hreserved
  rw [reservedBit_read c S u n hreserved, writeFPEXC_bit, wMask_reserved c n hreserved]
  constructor
  · intro hstored
    rw [if_pos hstored, if_pos hstored]
    exact ⟨rfl, rfl⟩
  · intro hhardwired
    rw [hhardwired]
    exact ⟨rfl, rfl⟩

/-- Settles O28: of the fields only TFV and the flags look at the draw, each at its own bit. -/
theorem drawsReachOnlyStatusBits : Obligations.DrawsReachOnlyStatusBits := by
  intro c S u u'
  constructor
  · refine and_eq_and_of_bits fun n hn hm => ?_
    have houtside : ∀ k < 32, (~~~0x0400009F#32).getLsbD k = true → k ≠ 26 ∧ k ≠ 7 ∧ 4 < k := by decide
    obtain ⟨htfv, hidf, hlow⟩ := houtside n hn hm
    rcases bit_field c n hn with rfl | rfl | rfl | rfl | hr | ⟨impl, hf⟩
    · rw [readEx_bit, readEx_bit]
    · rw [readEn_bit, readEn_bit]
    · rw [readDex_bit, readDex_bit]
    · exact absurd rfl htfv
    · rw [reservedBit_read c S u n hr, reservedBit_read c S u' n hr]
    · have := isFlagBit_place hf
      omega
  · intro hdraw
    have htfv : readTfv c S u = readTfv c S u' := by
      simp only [readTfv, bit_eq_of_and_eq_and hdraw 26 (by decide)]
    refine readFPEXC_eq_of_fields rfl rfl htfv (fun _ _ => rfl) (fun n impl hf => ?_)
    have hinside : ∀ k < 8, k = 7 ∨ k ≤ 4 → (0x0400009F#32).getLsbD k = true := by decide
    have hplace := isFlagBit_place hf
    simp only [readFlag, htfv, bit_eq_of_and_eq_and hdraw n (hinside n (by omega) hplace)]

/-- Settles O29, bit by bit: inside WMASK the merge takes the written bit, outside it the old one. -/
theorem writeMergeLaws : Obligations.WriteMergeLaws := by
  intro c S v v1
  refine ⟨and_eq_and_of_bits fun n hn hm => ?_, and_eq_and_of_bits fun n _ hm => ?_, ?_, ?_⟩
  · have houtside : (wMask c).getLsbD n = false := by simpa [BitVec.getLsbD_not, hn] using hm
    rw [writeFPEXC_bit, houtside, if_neg Bool.false_ne_true]
  · rw [writeFPEXC_bit, if_pos hm]
  · apply BitVec.eq_of_getLsbD_eq
    intro n _
    simp only [writeFPEXC_bit]
    cases (wMask c).getLsbD n <;> rfl
  · have hplace : ∀ k < 32, (0x84000000#32).getLsbD k = true → k = 31 ∨ k = 26 := by decide
    have hnone : wMask c &&& 0x84000000#32 = 0#32 &&& 0x84000000#32 := and_eq_and_of_bits fun n hn hm => by
      obtain ⟨hex, htfv⟩ := wMask_fixed c
      rcases hplace n hn hm with rfl | rfl
      · rw [hex]; rfl
      · rw [htfv]; rfl
    exact hnone

/-- Where DEX and TFV read 1, a read gives as stored every bit that a write can change (R30, R31). -/
theorem readFPEXC_of_wMask (c : Config) (S u : Word) (n : Nat) (hdex : (readFPEXC c S u).getLsbD 29 = true)
    (htfv : (readFPEXC c S u).getLsbD 26 = true) (hmask : (wMask c).getLsbD n = true) :
    (readFPEXC c S u).getLsbD n = S.getLsbD n := by
  obtain ⟨hexOut, htfvOut⟩ := wMask_fixed c
  rcases bit_field c n (BitVec.lt_of_getLsbD hmask) with rfl | rfl | rfl | rfl | hr | ⟨impl, hf⟩
  · rw [hexOut] at hmask; cases hmask
  · exact readEn_bit c S u
  · rw [readDex_bit]
    rw [wMask_dex] at hmask
    cases hres0 : dexRes0 c
    · simp only [readDex, hres0]; rfl
    · have hstored : c.resStorage.getLsbD 29 = true := by simpa only [hres0, Bool.not_true, Bool.false_or] using hmask
      simp only [readDex, res0, hres0, hstored, if_true]
  · rw [htfvOut] at hmask; cases hmask
  · rw [wMask_reserved c n hr] at hmask
    rw [reservedBit_read c S u n hr, if_pos hmask]
  · obtain ⟨hread, himpl⟩ := flagBit_read c S u n impl hf
    rw [hmask] at himpl
    rw [readDex_bit] at hdex
    rw [readTfv_bit] at htfv
    rw [hread, ← himpl, readFlag, hdex, htfv]
    rfl

/-- Settles O30: what WMASK holds is written back as it was stored, and no write has changed the rest. -/
theorem saveClearRestoreIsExact : Obligations.SaveClearRestoreIsExact := by
  intro c S u v hdex htfv
  apply BitVec.eq_of_getLsbD_eq
  intro n _
  rw [writeFPEXC_bit, writeFPEXC_bit]
  cases hmask : (wMask c).getLsbD n
  · rfl
  · exact readFPEXC_of_wMask c S u n hdex htfv hmask

/-- Settles O48: EN is 0 in the storage, so a read gives it as 0 for every draw; the rest is the reset state as given. -/
theorem resetStateHasEnClear : Obligations.ResetStateHasEnClear := by
  have hen : State.reset.fpexc.getLsbD 30 = false := by decide
  exact ⟨hen, fun u => ⟨readEx_bit _ _ u, (readEn_bit _ _ u).trans hen⟩, rfl, rfl, fun _ => rfl⟩

end Sys2Proof.Machine
end

section
/-! SUPPORT. A completed transfer seen by what comes after it: a later VMRS (R42) and a gated access (R43). -/

namespace Sys2Proof.Machine

/-- A VMRS whose condition holds and whose access is allowed has done its transfer, and its register is an admitted one (R55). -/
theorem exec_read_completed (i : Instr) (s s' : State) (hread : i.isRead = true) (hcond : conditionHolds i s.env = true)
    (haccess : accessCheck s.cfg s.env = .ok) (h : exec i s = .next s') : rtOk i.rt = true ∧ s' = readTransfer i.rt s := by
  have hw := wf_of_exec_next i s s' h
  rw [exec_read i s hw hread, if_pos hcond, checked_ok _ s haccess] at h
  injection h with h
  exact ⟨(exec_wf i s hw).1, h.symm⟩

/-- A VMSR whose condition holds and whose access is allowed has done its transfer (R56). -/
theorem exec_write_completed (i : Instr) (s s' : State) (v : Word) (hwrite : i.isRead = false)
    (hcond : conditionHolds i s.env = true) (haccess : accessCheck s.cfg s.env = .ok) (hv : s.x[i.rt.toNat]? = some v)
    (h : exec i s = .next s') : s' = writeTransfer v s := by
  rw [exec_write i s v (wf_of_exec_next i s s' h) hwrite hv, if_pos hcond, checked_ok _ s haccess] at h
  injection h with h
  exact h.symm

/-- What the transfer of a VMRS leaves in its register (R55). -/
theorem readTransfer_reg (t : BitVec 4) (s : State) (h : rtOk t = true) :
    (readTransfer t s).x[t.toNat]? = some (readFPEXC s.cfg s.fpexc (Config.freeWord s.draws)) :=
  writeX_same t _ s h

theorem writeEn_bit (c : Config) (S v : Word) : (writeFPEXC c S v).getLsbD 30 = v.getLsbD 30 := by
  rw [writeFPEXC_bit, wMask_en, if_pos rfl]

/-- Settles O32: the read gives the read view of the merge, in which EN, and DEX where it is live, are as written. -/
theorem readAfterWriteSeesTheWrite : Obligations.ReadAfterWriteSeesTheWrite := by
  intro i j s s1 s2 v r hwrite hread hcondWrite hcondRead haccess hv hexecWrite hexecRead hr
  obtain rfl := exec_write_completed i s s1 v hwrite hcondWrite haccess hv hexecWrite
  have hcond : conditionHolds j (writeTransfer v s).env = true := by rw [writeTransfer_env, hcondRead]
  have hallowed : accessCheck (writeTransfer v s).cfg (writeTransfer v s).env = .ok := by
    rw [writeTransfer_cfg, writeTransfer_env, haccess]
  obtain ⟨hrt, rfl⟩ := exec_read_completed j _ s2 hread hcond hallowed hexecRead
  rw [readTransfer_reg j.rt _ hrt, writeTransfer_cfg, writeTransfer_fpexc, writeTransfer_draws] at hr
  injection hr with hr
  subst hr
  refine ⟨rfl, ?_, fun hlive => ?_⟩
  · rw [readEn_bit, writeEn_bit]
  · obtain ⟨hreads, -⟩ := (dexReadsAndWritesByConfiguration s.cfg (writeFPEXC s.cfg s.fpexc v)
      (Config.freeWord s.draws) v).1 hlive
    obtain ⟨-, hstores⟩ := (dexReadsAndWritesByConfiguration s.cfg s.fpexc (Config.freeWord s.draws) v).1 hlive
    exact hreads.trans hstores

theorem enSeen_immediate (s : State) (h : s.cfg.enSync = .immediate) : enSeen s = s.fpexc.getLsbD 30 := by
  simp [enSeen, h]

/-- Under DEFERRED the draw picks between an unsynchronised old EN and `S[30]` (R43). -/
theorem enSeen_unsynchronised (s : State) (old : Bool) (h : s.cfg.enSync = .deferred) (hold : s.enOld = some old) :
    enSeen s = if (Config.freeWord s.draws).getLsbD 0 then old else s.fpexc.getLsbD 30 := by
  simp [enSeen, h, hold, nextDraw]

theorem writeTransfer_en (v : Word) (s : State) : (writeTransfer v s).fpexc.getLsbD 30 = v.getLsbD 30 := by
  rw [writeTransfer_fpexc, writeEn_bit]

/-- Under DEFERRED a VMSR that changes EN records the old bit (R43). -/
theorem writeTransfer_enOld_changed (v : Word) (s : State) (hdeferred : s.cfg.enSync = .deferred)
    (hchanged : v.getLsbD 30 ≠ s.fpexc.getLsbD 30) : (writeTransfer v s).enOld = some (s.fpexc.getLsbD 30) := by
  rw [writeTransfer_enOld, writeEn_bit, if_pos ⟨hdeferred, hchanged.symm⟩]

/-- A VMSR that leaves EN as it is records no old bit (R43). -/
theorem writeTransfer_enOld_same (v : Word) (s : State) (hsame : v.getLsbD 30 = s.fpexc.getLsbD 30) :
    (writeTransfer v s).enOld = s.enOld := by
  rw [writeTransfer_enOld, writeEn_bit, if_neg fun h => h.2 hsame.symm]

/-- Settles O44: what a gated access sees follows from the old EN, which a synchronisation drops and a VMSR records where it
changes the bit. -/
theorem gatedAccessSeesOldOrNewEn : Obligations.GatedAccessSeesOldOrNewEn := by
  refine ⟨enSeen_immediate, fun s s' rest hinputs hstep => ?_,
    fun i s s' v hwrite hcond haccess hv hdeferred hexec => ?_⟩
  · rw [step_input s .synchronise rest hinputs] at hstep
    cases hstep
    exact ⟨enSeen_synchronised _ rfl, rfl⟩
  · obtain rfl := exec_write_completed i s s' v hwrite hcond haccess hv hexec
    have hdeferred' : (writeTransfer v s).cfg.enSync = .deferred := by rw [writeTransfer_cfg, hdeferred]
    refine ⟨fun hchanged => ?_, fun hsame => ⟨fun hnone => ?_, fun old hold => ?_⟩⟩
    · have hold' := writeTransfer_enOld_changed v s hdeferred hchanged
      rw [enSeen_unsynchronised _ _ hdeferred' hold', writeTransfer_en]
    · have hnone' := (writeTransfer_enOld_same v s hsame).trans hnone
      rw [enSeen_synchronised _ hnone', writeTransfer_en]
    · have hold' := (writeTransfer_enOld_same v s hsame).trans hold
      rw [enSeen_unsynchronised _ _ hdeferred' hold', writeTransfer_en]

end Sys2Proof.Machine
end

section
/-! SUPPORT. The decoder and the encoder against each other (R48 to R52): what each of the decoder's checks decides, in both
instruction sets at once, and the fields of an encoded word. -/

namespace Sys2Proof

/-- Bits 31:28 that an instruction set's encodings may have (R48). -/
def topBitsOk : ISet → BitVec 4 → Bool
  | .a32, top => condOk top
  | .t32, top => top == 14#4

theorem condOk_eq_false_iff (cond : BitVec 4) : condOk cond = false ↔ cond = 15#4 := by simp [condOk]

theorem rtOk_eq_false_iff (t : BitVec 4) : rtOk t = false ↔ t = 15#4 := by simp [rtOk]

theorem topBitsOk_a32_iff (top : BitVec 4) : topBitsOk .a32 top = true ↔ top ≠ 15#4 := by simp [topBitsOk, condOk]

theorem topBitsOk_t32_iff (top : BitVec 4) : topBitsOk .t32 top = true ↔ top = 14#4 := by simp [topBitsOk]

/-- The instruction of instruction set `k` with bits 31:28 `top`, register `t` and direction `read` (R48). -/
def instrOfFields (k : ISet) (top t : BitVec 4) (read : Bool) : Instr :=
  match k, read with
  | .a32, true => .vmrsA32 top t
  | .a32, false => .vmsrA32 top t
  | .t32, true => .vmrsT32 t
  | .t32, false => .vmsrT32 t

@[simp] theorem instrOfFields_iset (k : ISet) (top t : BitVec 4) (read : Bool) : (instrOfFields k top t read).iset = k := by
  cases k <;> cases read <;> rfl

@[simp] theorem instrOfFields_rt (k : ISet) (top t : BitVec 4) (read : Bool) : (instrOfFields k top t read).rt = t := by
  cases k <;> cases read <;> rfl

/-- The word of an instruction is the row of its fields; bits 31:28 of a T32 word are `1110` (R48). -/
theorem encode_instrOfFields (k : ISet) (top t : BitVec 4) (read : Bool) (h : topBitsOk k top = true) :
    encode (instrOfFields k top t read) = encodeRow top (BitVec.ofBool read) t := by
  cases k with
  | a32 => cases read <;> rfl
  | t32 =>
    obtain rfl := (topBitsOk_t32_iff top).1 h
    cases read <;> rfl

/-! The fields of an encoded word. -/

theorem condField_encodeRow (top t : BitVec 4) (d : BitVec 1) : condField (encodeRow top d t) = top := by
  revert top t d; decide

theorem directionBit_encodeRow (top t : BitVec 4) (d : BitVec 1) : directionBit (encodeRow top d t) = d.getLsbD 0 := by
  revert top t d; decide

theorem encodedFields (i : Instr) : Laws.EncodedFields.Statement i := by
  cases i with
  | vmrsA32 cond t => exact Laws.EncodedFields.vmrsA32 cond t
  | vmsrA32 cond t => exact Laws.EncodedFields.vmsrA32 cond t
  | vmrsT32 t => exact Laws.EncodedFields.vmrsT32 t
  | vmsrT32 t => exact Laws.EncodedFields.vmsrT32 t

theorem rtField_encode (i : Instr) : rtField (encode i) = i.rt := by
  obtain ⟨-, -, -, hrt⟩ := encodedFields i
  cases i <;> exact hrt

theorem directionBit_encode (i : Instr) : directionBit (encode i) = i.isRead := by
  cases i <;> exact directionBit_encodeRow _ _ _

/-- An instruction is that of the fields of its word. -/
theorem instrOfFields_encode (i : Instr) : instrOfFields i.iset (condField (encode i)) i.rt i.isRead = i := by
  cases i with
  | vmrsA32 cond t => exact congrArg (Instr.vmrsA32 · t) (condField_encodeRow cond t 1#1)
  | vmsrA32 cond t => exact congrArg (Instr.vmsrA32 · t) (condField_encodeRow cond t 0#1)
  | vmrsT32 t => rfl
  | vmsrT32 t => rfl

/-- Well-formedness is what the decoder asks of bits 31:28 and of `Rt` (R48, R50). -/
theorem wf_iff_fields (i : Instr) : i.wf = true ↔ topBitsOk i.iset (condField (encode i)) = true ∧ rtOk i.rt = true := by
  cases i <;> simp [Instr.wf, Instr.iset, Instr.rt, topBitsOk, encode, condField_encodeRow]

/-! What each check of the decoder decides. -/

theorem decodeFields_admitted (w : Word) (read write : BitVec 4 → Instr) (hreg : regField w = 8#4)
    (hsbz : sbzClear w = true) (hrt : rtOk (rtField w) = true) :
    decodeFields w read write = .ok (if directionBit w then read (rtField w) else write (rtField w)) := by
  cases hd : directionBit w <;> simp [decodeFields, hreg, hsbz, hrt, hd]

theorem decodeFields_otherRegister (w : Word) (read write : BitVec 4 → Instr) (hreg : regField w ≠ 8#4) :
    decodeFields w read write = .error (.otherSpecialRegister (regField w)) := by
  simp [decodeFields, hreg]

theorem decodeFields_sbzSet (w : Word) (read write : BitVec 4 → Instr) (hreg : regField w = 8#4)
    (hsbz : sbzClear w = false) : decodeFields w read write = .error .sbzSet := by
  simp [decodeFields, hreg, hsbz]

theorem decodeFields_rtFifteen (w : Word) (read write : BitVec 4 → Instr) (hreg : regField w = 8#4)
    (hsbz : sbzClear w = true) (hrt : rtOk (rtField w) = false) : decodeFields w read write = .error .rtFifteen := by
  simp [decodeFields, hreg, hsbz, hrt]

theorem decode_notVmrsVmsr (k : ISet) (w : Word) (h : isVmrsVmsr w = false) : decode k w = .error .notVmrsVmsr := by
  cases k <;> simp [decode, decodeA32, decodeT32, h]

theorem decodeA32_condReserved (w : Word) (hclass : isVmrsVmsr w = true) (hcond : condOk (condField w) = false) :
    decode .a32 w = .error .condReserved := by
  simp [decode, decodeA32, hclass, hcond]

theorem decodeT32_notVmrsVmsr (w : Word) (h : condField w ≠ 14#4) : decode .t32 w = .error .notVmrsVmsr := by
  cases hclass : isVmrsVmsr w <;> simp [decode, decodeT32, hclass, h]

/-- Past the checks on the class and on bits 31:28, both instruction sets check the same fields. -/
theorem decode_eq_decodeFields (k : ISet) (w : Word) (hclass : isVmrsVmsr w = true) (htop : topBitsOk k (condField w) = true) :
    decode k w = decodeFields w (instrOfFields k (condField w) · true) (instrOfFields k (condField w) · false) := by
  cases k with
  | a32 => simp only [decode, decodeA32, hclass, show condOk (condField w) = true from htop]; rfl
  | t32 =>
    have hcond := (topBitsOk_t32_iff _).1 htop
    simp [decode, decodeT32, hclass, hcond, instrOfFields]

/-- The decoder admits a word exactly where all its checks pass, and gives the instruction of the word's fields. -/
theorem decode_ok_iff (k : ISet) (w : Word) (i : Instr) : decode k w = .ok i ↔
    isVmrsVmsr w = true ∧ topBitsOk k (condField w) = true ∧ regField w = 8#4 ∧ sbzClear w = true ∧
      rtOk (rtField w) = true ∧ i = instrOfFields k (condField w) (rtField w) (directionBit w) := by
  constructor
  · intro h
    have hclass : isVmrsVmsr w = true := by
      by_contra hclass
      rw [decode_notVmrsVmsr k w (Bool.eq_false_iff.2 hclass)] at h
      cases h
    have htop : topBitsOk k (condField w) = true := by
      by_contra htop
      cases k with
      | a32 => rw [decodeA32_condReserved w hclass (Bool.eq_false_iff.2 htop)] at h; cases h
      | t32 => rw [decodeT32_notVmrsVmsr w (mt (topBitsOk_t32_iff _).2 htop)] at h; cases h
    rw [decode_eq_decodeFields k w hclass htop] at h
    obtain ⟨hreg, hsbz, hrt, ⟨hd, hi⟩ | ⟨hd, hi⟩⟩ := decodeFields_ok w _ _ i h
    · exact ⟨hclass, htop, hreg, hsbz, hrt, by rw [hd, hi]⟩
    · exact ⟨hclass, htop, hreg, hsbz, hrt, by rw [hd, hi]⟩
  · rintro ⟨hclass, htop, hreg, hsbz, hrt, rfl⟩
    rw [decode_eq_decodeFields k w hclass htop, decodeFields_admitted w _ _ hreg hsbz hrt]
    cases directionBit w <;> rfl

/-- Settles O2: the word of an instruction passes every check, and its fields are those of the instruction. -/
theorem decodeOfEncodeIsTheInstruction : Obligations.DecodeOfEncodeIsTheInstruction := by
  intro i hw
  obtain ⟨hclass, hreg, hsbz, -⟩ := encodedFields i
  obtain ⟨htop, hrt⟩ := (wf_iff_fields i).1 hw
  rw [decode_ok_iff, rtField_encode, directionBit_encode, instrOfFields_encode]
  exact ⟨hclass, htop, hreg, hsbz, hrt, rfl⟩

/-- A word with the fixed fields of a row is the row of its own fields. -/
theorem encodeRow_of_checks (w : Word) (hclass : isVmrsVmsr w = true) (hreg : regField w = 8#4) (hsbz : sbzClear w = true) :
    encodeRow (condField w) (BitVec.ofBool (directionBit w)) (rtField w) = w :=
  encodeRow_of_fields w ((isVmrsVmsr_iff w).1 hclass) hreg ((sbzClear_iff w).1 hsbz) _ (by simp)

/-- Settles O3: a word that passes every check is the row its fields make, and so the word of the instruction of its fields. -/
theorem encodeOfDecodeIsTheWord : Obligations.EncodeOfDecodeIsTheWord := by
  intro k w i h
  obtain ⟨hclass, htop, hreg, hsbz, hrt, rfl⟩ := (decode_ok_iff k w i).1 h
  have hword : encode (instrOfFields k (condField w) (rtField w) (directionBit w)) = w := by
    rw [encode_instrOfFields k _ _ _ htop, encodeRow_of_checks w hclass hreg hsbz]
  refine ⟨hword, (wf_iff_fields _).2 ⟨?_, ?_⟩, instrOfFields_iset _ _ _ _⟩
  · rwa [hword, instrOfFields_iset]
  · rwa [instrOfFields_rt]

/-- Settles O1: each word is the word of its instruction, so it decodes to that instruction. -/
theorem specWordsDecodeToTheirInstructions : Obligations.SpecWordsDecodeToTheirInstructions :=
  ⟨decodeOfEncodeIsTheInstruction (.vmrsA32 14#4 0#4) rfl, decodeOfEncodeIsTheInstruction (.vmsrA32 14#4 0#4) rfl,
    decodeOfEncodeIsTheInstruction (.vmrsA32 14#4 3#4) rfl, decodeOfEncodeIsTheInstruction (.vmsrA32 14#4 1#4) rfl,
    decodeOfEncodeIsTheInstruction (.vmrsT32 0#4) rfl, decodeOfEncodeIsTheInstruction (.vmsrT32 0#4) rfl,
    decodeOfEncodeIsTheInstruction (.vmsrA32 0#4 1#4) rfl, decodeOfEncodeIsTheInstruction (.vmrsA32 0#4 0#4) rfl⟩

/-! The match and mask rows of R48. -/

/-- The match value of a row, bits 31:28 apart (R48). -/
def rowMatch (read : Bool) : Word := if read then 0x0EF80A10#32 else 0x0EE80A10#32

theorem encodeRow_rowMask (top t : BitVec 4) (read : Bool) :
    encodeRow top (BitVec.ofBool read) t &&& 0x0FFF0FFF#32 = rowMatch read := by
  revert top t read; decide

theorem encodeRow_rowMaskT32 (t : BitVec 4) (read : Bool) :
    encodeRow 14#4 (BitVec.ofBool read) t &&& 0xFFFF0FFF#32 = 0xE0000000#32 ||| rowMatch read := by
  revert t read; decide

/-- A match under a mask is one under each part of the mask. -/
theorem and_eq_of_and_eq {w m v : Word} (h : w &&& m = v) (part : Word) : w &&& (m &&& part) = v &&& part := by
  rw [← BitVec.and_assoc, h]

/-- A field that lies under the mask is that of the match value. -/
theorem extractLsb'_of_and_eq {w m v : Word} (h : w &&& m = v) (start len : Nat)
    (hmask : m.extractLsb' start len = BitVec.allOnes len) : w.extractLsb' start len = v.extractLsb' start len := by
  rw [← h, BitVec.extractLsb'_and, hmask, BitVec.and_allOnes]

/-- A word matches a row of R48, bits 31:28 apart, exactly where it passes the checks on its class, `reg` and the
should-be-zero bits. -/
theorem exists_rowMatch_iff (w : Word) : (∃ read, w &&& 0x0FFF0FFF#32 = rowMatch read) ↔
    isVmrsVmsr w = true ∧ regField w = 8#4 ∧ sbzClear w = true := by
  constructor
  · rintro ⟨read, h⟩
    refine ⟨(isVmrsVmsr_iff w).2 ?_, ?_, (sbzClear_iff w).2 ?_⟩
    · exact (and_eq_of_and_eq h 0x0FE00F10#32).trans (by cases read <;> rfl)
    · exact (extractLsb'_of_and_eq h 16 4 (by decide)).trans (by cases read <;> rfl)
    · exact (and_eq_of_and_eq h 0x000000EF#32).trans (by cases read <;> rfl)
  · rintro ⟨hclass, hreg, hsbz⟩
    refine ⟨directionBit w, ?_⟩
    rw [← encodeRow_rowMask (condField w) (rtField w), encodeRow_of_checks w hclass hreg hsbz]

/-- A T32 row of R48 also fixes bits 31:28 to `1110`. -/
theorem exists_rowMatchT32_iff (w : Word) : (∃ read, w &&& 0xFFFF0FFF#32 = 0xE0000000#32 ||| rowMatch read) ↔
    (∃ read, w &&& 0x0FFF0FFF#32 = rowMatch read) ∧ condField w = 14#4 := by
  constructor
  · rintro ⟨read, h⟩
    refine ⟨⟨read, ?_⟩, ?_⟩
    · exact (and_eq_of_and_eq h 0x0FFF0FFF#32).trans (by cases read <;> rfl)
    · exact (extractLsb'_of_and_eq h 28 4 (by decide)).trans (by cases read <;> rfl)
  · rintro ⟨hrow, hcond⟩
    obtain ⟨hclass, hreg, hsbz⟩ := (exists_rowMatch_iff w).1 hrow
    refine ⟨directionBit w, ?_⟩
    rw [← encodeRow_rowMaskT32 (rtField w), ← hcond, encodeRow_of_checks w hclass hreg hsbz]

/-- The words an instruction set admits: a row of R48, bits 31:28 of that instruction set, and `t` not 15 (R50). -/
theorem decode_admits_iff (k : ISet) (w : Word) : (∃ i, decode k w = .ok i) ↔
    (∃ read, w &&& 0x0FFF0FFF#32 = rowMatch read) ∧ topBitsOk k (condField w) = true ∧ rtOk (rtField w) = true := by
  simp only [decode_ok_iff, exists_rowMatch_iff, exists_and_left, exists_eq, and_true]
  tauto

/-- Settles O4: the rows of R48 written out, one for each direction. -/
theorem decoderAdmitsExactlyTheTableRows : Obligations.DecoderAdmitsExactlyTheTableRows := by
  intro w
  have ha32 : (∃ read, w &&& 0x0FFF0FFF#32 = rowMatch read) ↔
      w &&& 0x0FFF0FFF#32 = 0x0EF80A10#32 ∨ w &&& 0x0FFF0FFF#32 = 0x0EE80A10#32 := by
    rw [Bool.exists_bool, or_comm]; rfl
  have ht32 : (∃ read, w &&& 0xFFFF0FFF#32 = 0xE0000000#32 ||| rowMatch read) ↔
      w &&& 0xFFFF0FFF#32 = 0xEEF80A10#32 ∨ w &&& 0xFFFF0FFF#32 = 0xEEE80A10#32 := by
    rw [Bool.exists_bool, or_comm]; rfl
  rw [decode_admits_iff, decode_admits_iff, ← ha32, ← ht32, exists_rowMatchT32_iff]
  simp [topBitsOk, condOk, rtOk, condField, rtField, and_assoc]

/-- Settles O5: the decoder's checks in their order, each with the name it refuses under. -/
theorem refusedWordsAreRefusedByName : Obligations.RefusedWordsAreRefusedByName := by
  intro w
  refine ⟨fun k hclass => ?_, fun hclass => ?_⟩
  · exact decode_notVmrsVmsr k w (Bool.eq_false_iff.2 (mt (isVmrsVmsr_iff w).1 hclass))
  rw [← isVmrsVmsr_iff] at hclass
  refine ⟨decodeT32_notVmrsVmsr w, fun hcond => ?_, fun k hk => ?_⟩
  · exact decodeA32_condReserved w hclass ((condOk_eq_false_iff _).2 hcond)
  have htop : topBitsOk k (condField w) = true := by
    rcases hk with ⟨rfl, hcond⟩ | ⟨rfl, hcond⟩
    · exact (topBitsOk_t32_iff _).2 hcond
    · exact (topBitsOk_a32_iff _).2 hcond
  rw [decode_eq_decodeFields k w hclass htop]
  refine ⟨decodeFields_otherRegister w _ _, fun hreg hsbz => ?_, fun hreg hsbz hrt => ?_⟩
  · exact decodeFields_sbzSet w _ _ hreg (Bool.eq_false_iff.2 (mt (sbzClear_iff w).1 hsbz))
  · exact decodeFields_rtFifteen w _ _ hreg ((sbzClear_iff w).2 hsbz) ((rtOk_eq_false_iff _).2 hrt)

end Sys2Proof
end

section
/-! SUPPORT. The two ways an instruction makes no access: its condition fails (R51), or no word decodes to it (R48, R50). -/

namespace Sys2Proof.Machine

/-- Settles O13: in both directions the permission check stands behind the condition. -/
theorem failedConditionOnlyAdvancesPc : Obligations.FailedConditionOnlyAdvancesPc := by
  intro i s hw hcond
  have hskip : ∀ f, (if conditionHolds i s.env then checked f s else advancePc s) = advancePc s := by simp [hcond]
  cases hr : i.isRead
  · obtain ⟨v, hv⟩ := reg_of_wf i s hw
    rw [exec_write i s v hw hr hv, hskip]; rfl
  · rw [exec_read i s hw hr, hskip]; rfl

theorem withCondA32_reserved (cond : BitVec 4) (r : Host.Outcome State Fault Refusal) (h : condOk cond = false) :
    withCondA32 cond r = .refused .condReserved := by
  simp [withCondA32, h]

/-! The meanings, one instruction at a time. -/

theorem exec_vmrsA32 (cond t : BitVec 4) (s : State) :
    exec (.vmrsA32 cond t) s = withCondA32 cond (vmrsStep (conditionA32 cond s.env) t s) := rfl

theorem exec_vmsrA32 (cond t : BitVec 4) (s : State) :
    exec (.vmsrA32 cond t) s = withCondA32 cond (vmsrStep (conditionA32 cond s.env) t s) := rfl

theorem exec_vmrsT32 (t : BitVec 4) (s : State) : exec (.vmrsT32 t) s = vmrsStep (conditionT32 s.env) t s := rfl

theorem exec_vmsrT32 (t : BitVec 4) (s : State) : exec (.vmsrT32 t) s = vmsrStep (conditionT32 s.env) t s := rfl

/-- Settles O10: the A32 forms look at `cond` first; then every form reads `x[t]`, and there is no `x[15]`. -/
theorem illFormedInstructionsAreRefused : Obligations.IllFormedInstructionsAreRefused := by
  intro cond t s
  have hcond : condOk 15#4 = false := by decide
  have hrt : rtOk 15#4 = false := by decide
  simp only [exec_vmrsA32, exec_vmsrA32, exec_vmrsT32, exec_vmsrT32]
  refine ⟨withCondA32_reserved _ _ hcond, withCondA32_reserved _ _ hcond, fun hne => ?_,
    vmrsStep_refused _ _ s hrt, vmsrStep_refused _ _ s hrt⟩
  have hok : condOk cond = true := bne_iff_ne.2 hne
  rw [withCondA32_ok cond _ hok, withCondA32_ok cond _ hok]
  exact ⟨vmrsStep_refused _ _ s hrt, vmsrStep_refused _ _ s hrt⟩

end Sys2Proof.Machine
end

section
/-! SUPPORT. An access that is not allowed (R57, R59 d): what it raises, and runs at EL0. -/

namespace Sys2Proof.Machine

theorem checked_trapA64 (f : State → State) (s : State) (target : EL) (ec : Nat)
    (h : accessCheck s.cfg s.env = .trapA64 target ec) : checked f s = raise (.systemAccessTrapA64 target ec) s := by
  unfold checked; rw [h]

theorem checked_hypTrap (f : State → State) (s : State) (ec : Nat) (h : accessCheck s.cfg s.env = .hypTrap ec) :
    checked f s = raise (.hypTrap ec) s := by
  unfold checked; rw [h]

/-- Settles O14: each answer but OK puts its outcome in place of the transfer, in both directions. -/
theorem deniedAccessRaisesItsOutcomeAndNothingElse : Obligations.DeniedAccessRaisesItsOutcomeAndNothingElse := by
  intro i s hw hcond
  refine ⟨fun l h => ?_, fun target ec h => ?_, fun ec h => ?_⟩
  · exact exec_of_checked_eq i s _ hw hcond fun f => checked_undef f s l h
  · exact exec_of_checked_eq i s _ hw hcond fun f => checked_trapA64 f s target ec h
  · exact exec_of_checked_eq i s _ hw hcond fun f => checked_hypTrap f s ec h

/-- At EL0 lines A and B leave no other answer (R59 d). -/
theorem accessCheck_el0 (c : Config) (e : Env) (h : e.el = .el0) : ∃ l, accessCheck c e = .undef l := by
  cases hfeat : c.featAA32EL1
  · exact ⟨.lineA, accessCheck_absent c e hfeat⟩
  · exact ⟨.lineB, by simp [accessCheck, hfeat, h]⟩

/-- An instruction that is not allowed its access keeps `S`, the registers and `E`. -/
theorem exec_denied (i : Instr) (s s' : State) (hdenied : accessCheck s.cfg s.env ≠ .ok) (h : exec i s = .next s') :
    s'.fpexc = s.fpexc ∧ s'.x = s.x ∧ s'.env = s.env := by
  rcases exec_next i s s' h with rfl | ⟨-, o, rfl⟩ | ⟨-, hallowed, -⟩
  · exact ⟨rfl, rfl, rfl⟩
  · exact ⟨rfl, rfl, rfl⟩
  · exact absurd hallowed hdenied

theorem isInstruction_instruction {i : Input} (h : ∃ passed, i = .instruction passed) : isInstruction i = true := by
  obtain ⟨passed, rfl⟩ := h; rfl

/-- Where only instructions take turns, a step runs the decoded instruction in the state its turn gives it. -/
theorem step_of_onlyInstructions (s s' : State) (honly : ∀ i ∈ s.inputs, ∃ passed, i = .instruction passed)
    (h : step s = .next s') : ∃ t i, instructionRunsIn s t ∧ exec i t = .next s' := by
  rcases step_cases s s' h with ⟨i, rest, hinputs, hother, -⟩ | ⟨t, i, hruns, -, -, hexec⟩
  · have hhead : i ∈ s.inputs := by rw [hinputs]; exact List.mem_cons_self
    rw [isInstruction_instruction (honly i hhead)] at hother
    cases hother
  · exact ⟨t, i, hruns, hexec⟩

/-- An instruction's turn does not change the Exception level. -/
theorem instructionRunsIn_el (s t : State) (h : instructionRunsIn s t) : t.env.el = s.env.el := by
  rcases h with ⟨-, rfl⟩ | ⟨passed, rest, -, rfl⟩ <;> rfl

/-- R59 d for one step: an instruction at EL0 keeps `S`, the registers and the level. -/
theorem step_el0 (s s' : State) (hel : s.env.el = .el0) (honly : ∀ i ∈ s.inputs, ∃ passed, i = .instruction passed)
    (h : step s = .next s') : s'.fpexc = s.fpexc ∧ s'.x = s.x ∧ s'.env.el = .el0 := by
  obtain ⟨t, i, hruns, hexec⟩ := step_of_onlyInstructions s s' honly h
  have htel : t.env.el = .el0 := (instructionRunsIn_el s t hruns).trans hel
  obtain ⟨l, hundef⟩ := accessCheck_el0 t.cfg t.env htel
  have hdenied : accessCheck t.cfg t.env ≠ .ok := by rw [hundef]; exact AccessResult.noConfusion
  obtain ⟨hfpexc, hx, henv⟩ := exec_denied i t s' hdenied hexec
  obtain ⟨-, htfpexc, htx, -⟩ := instructionRunsIn_keeps s t hruns
  exact ⟨hfpexc.trans htfpexc, hx.trans htx, by rw [henv, htel]⟩

/-- R59 d over a run, by induction on its length: what is left in the queue is instructions still. -/
theorem run_el0 (k : Nat) (s s' : State) (hel : s.env.el = .el0)
    (honly : ∀ i ∈ s.inputs, ∃ passed, i = .instruction passed) (h : Sys2Proof.core.run k s = .next s') :
    s'.fpexc = s.fpexc ∧ s'.x = s.x ∧ s'.env.el = .el0 := by
  induction k generalizing s with
  | zero => cases h; exact ⟨rfl, rfl, hel⟩
  | succ k ih =>
    obtain ⟨s1, hstep, hrest⟩ := run_succ k s s' h
    obtain ⟨hfpexc, hx, hel1⟩ := step_el0 s s1 hel honly hstep
    have honly1 : ∀ i ∈ s1.inputs, ∃ passed, i = .instruction passed := fun i hi => by
      rw [step_inputs s s1 hstep] at hi
      exact honly i (List.mem_of_mem_tail hi)
    obtain ⟨hfpexc', hx', hel'⟩ := ih s1 hel1 honly1 hrest
    exact ⟨hfpexc'.trans hfpexc, hx'.trans hx, hel'⟩

/-- Where the environment supplies `ConditionPassed`, every instruction's condition holds (R51). -/
theorem conditionHolds_of_passed (i : Instr) (e : Env) (h : e.conditionPassed = true) : conditionHolds i e = true := by
  cases i <;> simp [conditionHolds, h]

theorem instructionRunsIn_passed (s t : State) (hpassed : s.env.conditionPassed = true)
    (honly : ∀ i ∈ s.inputs, i = .instruction true) (h : instructionRunsIn s t) : t.env.conditionPassed = true := by
  rcases h with ⟨-, rfl⟩ | ⟨passed, rest, hinputs, rfl⟩
  · exact hpassed
  · have hhead := honly (.instruction passed) (by rw [hinputs]; exact List.mem_cons_self)
    injection hhead

/-- At EL0, where every condition holds, the first step already ends the run, in Undefined (R70, R79). -/
theorem step_el0_ended (s s' : State) (hel : s.env.el = .el0) (hpassed : s.env.conditionPassed = true)
    (honly : ∀ i ∈ s.inputs, i = .instruction true) (h : step s = .next s') : endedInOutcome s' = true := by
  obtain ⟨t, i, hruns, hexec⟩ := step_of_onlyInstructions s s' (fun i hi => ⟨true, honly i hi⟩) h
  have hcond := conditionHolds_of_passed i t.env (instructionRunsIn_passed s t hpassed honly hruns)
  obtain ⟨l, hundef⟩ := accessCheck_el0 t.cfg t.env ((instructionRunsIn_el s t hruns).trans hel)
  have hraised := exec_of_checked_eq i t _ (wf_of_exec_next i t s' hexec) hcond fun f => checked_undef f t l hundef
  rw [hraised] at hexec
  injection hexec with hexec
  rw [← hexec]
  rfl

/-- Settles O57: the first clause is R59 d over a run; a good run holds an instruction, so it has a first step, which ends it. -/
theorem unprivilegedRunsNeverTouchFPEXC : Obligations.UnprivilegedRunsNeverTouchFPEXC := by
  intro k s s' hel
  refine ⟨fun honly hrun => run_el0 k s s' hel honly hrun, fun hpassed honly hgood => ?_⟩
  have ⟨hrun, _, _, j, _, hj, _⟩ := hgood
  obtain ⟨n, rfl⟩ : ∃ n, k = n + 1 := ⟨k - 1, by omega⟩
  obtain ⟨s1, hstep, -⟩ := run_succ n s s' hrun
  have hfirst : Sys2Proof.core.run 1 s = .next s1 := by simp only [Sys2Proof.core, Host.Core.run, hstep]
  exact not_goodRun_of_ended (n + 1) 1 s s' s1 (by omega) hfirst (step_el0_ended s s1 hel hpassed honly hstep) hgood

end Sys2Proof.Machine
end

section
/-! SUPPORT. VMRS and VMSR in a closed form and as frames (R55, R56), and what neither looks at (R58). -/

namespace Sys2Proof.Machine

/-- Settles O11: the transfer is the one R55 writes. -/
theorem vmrsCompletesWithTheReadView : Obligations.VmrsCompletesWithTheReadView := by
  intro i s hw hread hcond haccess
  rw [exec_read i s hw hread, if_pos hcond, checked_ok _ s haccess]
  rfl

theorem setFPEXC_eq (v : Word) (s : State) : setFPEXC v s =
    { s with
      fpexc := v
      enOld := if s.cfg.enSync = .deferred ∧ s.fpexc.getLsbD 30 ≠ v.getLsbD 30 then some (s.fpexc.getLsbD 30)
               else s.enOld } := by
  dsimp only [setFPEXC, noteEnChange]
  split_ifs <;> rfl

/-- Settles O12: EN is in WMASK, so the merge changes EN exactly where `x[t]` differs from it. -/
theorem vmsrCompletesWithTheWriteMerge : Obligations.VmsrCompletesWithTheWriteMerge := by
  intro i s v hw hwrite hcond haccess hv
  rw [exec_write i s v hw hwrite hv, if_pos hcond, checked_ok _ s haccess, writeTransfer, setFPEXC_eq, writeEn_bit]
  rfl

/-- Settles O15: no instruction writes `P`, `E`, the queue or the program; a VMRS writes no register but its own. -/
theorem vmrsLeavesAllElseUnchanged : Obligations.VmrsLeavesAllElseUnchanged := by
  intro i s s' hread h
  obtain ⟨hcfg, henv, hprogram, hinputs⟩ := exec_keeps i s s' h
  have hx : ∀ r : Nat, r ≠ i.rt.toNat → s'.x[r]? = s.x[r]? := fun r hr => by
    rcases exec_x i s s' r h with hkept | ⟨-, -, -, hrt⟩
    · exact hkept
    · exact absurd hrt.symm hr
  have hS : s'.fpexc = s.fpexc ∧ s'.enOld = s.enOld := by
    rcases exec_next i s s' h with rfl | ⟨-, o, rfl⟩ | ⟨-, -, ⟨-, rfl⟩ | ⟨hwrite, -⟩⟩
    · exact ⟨rfl, rfl⟩
    · exact ⟨rfl, rfl⟩
    · exact ⟨rfl, rfl⟩
    · rw [hread] at hwrite; cases hwrite
  exact ⟨hx, hS.1, hS.2, hcfg, henv, hinputs, fun a => by rw [hprogram]⟩

/-- No instruction changes a bit of `S` outside WMASK (R31). -/
theorem exec_fpexc_bit (i : Instr) (s s' : State) (n : Nat) (hmask : (wMask s.cfg).getLsbD n = false)
    (h : exec i s = .next s') : s'.fpexc.getLsbD n = s.fpexc.getLsbD n := by
  rcases exec_fpexc i s s' h with hkept | ⟨-, -, -, v, -, hwritten⟩
  · rw [hkept]
  · rw [hwritten, writeFPEXC_bit, hmask, if_neg Bool.false_ne_true]

/-- Settles O16: as for VMRS, and of `S` a VMSR writes the bits of WMASK, which never hold EX or TFV. -/
theorem vmsrLeavesAllElseUnchanged : Obligations.VmsrLeavesAllElseUnchanged := by
  intro i s s' hwrite h
  obtain ⟨hcfg, henv, hprogram, hinputs⟩ := exec_keeps i s s' h
  have hregs : s'.x = s.x ∧ s'.draws = s.draws := by
    rcases exec_next i s s' h with rfl | ⟨-, o, rfl⟩ | ⟨-, -, ⟨hread, -⟩ | ⟨-, v, -, rfl⟩⟩
    · exact ⟨rfl, rfl⟩
    · exact ⟨rfl, rfl⟩
    · rw [hwrite] at hread; cases hread
    · exact ⟨writeTransfer_x v s, writeTransfer_draws v s⟩
  have hbits : ∀ n, (wMask s.cfg).getLsbD n = false → s'.fpexc.getLsbD n = s.fpexc.getLsbD n :=
    fun n hmask => exec_fpexc_bit i s s' n hmask h
  obtain ⟨-, -, -, hoff⟩ := writeMergeLaws s.cfg s.fpexc s.fpexc s.fpexc
  have hfixed : s'.fpexc &&& 0x84000000#32 = s.fpexc &&& 0x84000000#32 := and_eq_and_of_bits fun n _ hm =>
    hbits n ((bit_eq_of_and_eq_and (b := 0#32) hoff n hm).trans BitVec.getLsbD_zero)
  exact ⟨hregs.1, hfixed, hbits, hcfg, henv, hregs.2, hinputs, fun a => by rw [hprogram]⟩

/-- Two transfers that end alike do so behind the same condition and the same permission check too. -/
theorem checked_endsAlike {f g : State → State} {s t : State} (passed : Bool) (hcfg : t.cfg = s.cfg) (henv : t.env = s.env)
    (hpc : t.pc = s.pc) (houtcome : t.outcome = s.outcome)
    (htransfer : (g t).outcome = (f s).outcome ∧ (g t).pc = (f s).pc) :
    (if passed then checked g t else advancePc t).outcome = (if passed then checked f s else advancePc s).outcome ∧
    (if passed then checked g t else advancePc t).pc = (if passed then checked f s else advancePc s).pc := by
  cases passed
  · simp [hpc, houtcome]
  · simp only [if_true, checked, hcfg, henv]
    cases accessCheck s.cfg s.env with
    | ok => exact htransfer
    | undef l => exact ⟨rfl, hpc⟩
    | trapA64 target ec => exact ⟨rfl, hpc⟩
    | hypTrap ec => exact ⟨rfl, hpc⟩

/-- Settles O20: the condition and the permission check look at `P` and `E` only, and either transfer moves `pc` by 4. -/
theorem accessOutcomeDoesNotDependOnFPEXC : Obligations.AccessOutcomeDoesNotDependOnFPEXC := by
  intro i s v s1 h
  have hw := wf_of_exec_next i s s1 h
  cases hr : i.isRead
  · obtain ⟨w, hreg⟩ := reg_of_wf i s hw
    rw [exec_write i s w hw hr hreg] at h
    injection h with h
    subst h
    exact ⟨_, exec_write i { s with fpexc := v } w hw hr hreg, checked_endsAlike _ rfl rfl rfl rfl (by simp)⟩
  · rw [exec_read i s hw hr] at h
    injection h with h
    subst h
    exact ⟨_, exec_read i { s with fpexc := v } hw hr, checked_endsAlike _ rfl rfl rfl rfl (by simp)⟩

/-- Settles O31: both registers hold a read of the same `S`, each under its own draw. -/
theorem twoReadsInARowAgreeOnFixedBits : Obligations.TwoReadsInARowAgreeOnFixedBits := by
  intro i j s s1 s2 a b hreadi hreadj hne hcondi hcondj haccess hexeci hexecj ha hb
  obtain ⟨hrti, rfl⟩ := exec_read_completed i s s1 hreadi hcondi haccess hexeci
  obtain ⟨hrtj, rfl⟩ := exec_read_completed j (readTransfer i.rt s) s2 hreadj hcondj haccess hexecj
  have hother : i.rt.toNat ≠ j.rt.toNat := fun h => hne (BitVec.eq_of_toNat_eq h)
  have hfirst : (readTransfer j.rt (readTransfer i.rt s)).x[i.rt.toNat]? =
      some (readFPEXC s.cfg s.fpexc (Config.freeWord s.draws)) :=
    (writeX_other j.rt _ _ i.rt.toNat hother).trans (readTransfer_reg i.rt s hrti)
  rw [hfirst] at ha
  rw [readTransfer_reg j.rt (readTransfer i.rt s) hrtj, readTransfer_cfg, readTransfer_fpexc] at hb
  injection ha with ha
  injection hb with hb
  subst ha hb
  exact ⟨(drawsReachOnlyStatusBits s.cfg s.fpexc _ _).1, by rw [readTransfer_fpexc, readTransfer_fpexc]⟩

end Sys2Proof.Machine
end

section
/-! SUPPORT. AccessCheck in both directions (R57): its answer as the first line that holds, and each answer's conditions. -/

namespace Sys2Proof.Machine

/-- The answer by level, once line A has passed. -/
theorem accessCheck_iff (c : Config) (e : Env) (r : AccessResult) : accessCheck c e = r ↔
    (c.featAA32EL1 = false ∧ .undef .lineA = r) ∨
    (c.featAA32EL1 = true ∧
      ((e.el = .el0 ∧ .undef .lineB = r) ∨ (e.el = .el1 ∧ accessCheckEL1 c e = r) ∨
       (e.el = .el2 ∧ accessCheckEL2 c e = r) ∨ (e.el = .el3 ∧ accessCheckEL3 e = r))) := by
  rw [accessCheck]
  cases c.featAA32EL1 <;> cases e.el <;> simp

/-- EL2 uses one of the two execution states, so its AArch64 controls and `HCPTR` never object together. -/
theorem not_el2A64Objects_of_hypObjectsAtEL1 {c : Config} {e : Env} (h : hypObjectsAtEL1 c e) : ¬ el2A64Objects c e := by
  rintro ⟨-, ha64, -⟩
  obtain ⟨-, -, ha32, -⟩ := h
  rw [ha32] at ha64
  cases ha64

/-- Settles O59: at each level OK stands behind every line. -/
theorem accessCheckAllowsExactly : Obligations.AccessCheckAllowsExactly := by
  intro c e
  simp only [accessCheck_iff, accessCheckEL1_eq, accessCheckEL2_eq, accessCheckEL3, ite_eq_iff, beq_iff_eq, reduceCtorEq,
    and_false, false_or, and_true]
  refine and_congr_right fun _ => or_congr (and_congr_right fun _ => ?_) (or_congr_left (and_congr_right fun _ => ?_))
  · tauto
  · tauto

/-- Under an EL3 control that objects, lines 1.1 and 2.1 are passed for want of `EL3SDDUndefPriority()` alone. -/
theorem not_el3First_iff {c : Config} {e : Env} (h : el3Objects c e) :
    ¬ (e.el3SDDUndefPriority = true ∧ el3Objects c e) ↔ e.el3SDDUndefPriority = false := by
  rw [and_iff_left h, Bool.not_eq_true]

/-- Settles O60: a line answers where it holds and no earlier one does; for lines 1.6a and 2.3a, which share the EL3 control with
lines 1.1 and 2.1, the latter is a matter of the priority. -/
theorem undefinedLinesAndTheirConditions : Obligations.UndefinedLinesAndTheirConditions := by
  intro c e
  simp only [ne_eq, accessCheck_iff, accessCheckEL1_eq, accessCheckEL2_eq, accessCheckEL3, ite_eq_iff, beq_iff_eq, not_or,
    reduceCtorEq, and_false, false_or, and_true, or_false, AccessResult.undef.injEq, true_and, not_false_eq_true]
  refine ⟨and_congr_right fun _ => and_congr_right fun _ => ⟨?_, ?_⟩,
    and_congr_right fun _ => and_congr_right fun _ => ⟨?_, ?_⟩⟩
  · rintro ⟨hfirst, ⟨hns, hcp⟩, ha64, hhyp, h3, hsdd⟩
    exact ⟨h3, (not_el3First_iff h3).1 hfirst, hsdd, hns, hcp, ha64, hhyp⟩
  · rintro ⟨h3, hprio, hsdd, hns, hcp, ha64, hhyp⟩
    exact ⟨(not_el3First_iff h3).2 hprio, ⟨hns, hcp⟩, ha64, hhyp, h3, hsdd⟩
  · rintro ⟨hfirst, hhyp, h3, hsdd⟩
    exact ⟨h3, (not_el3First_iff h3).1 hfirst, hsdd, hhyp⟩
  · rintro ⟨h3, hprio, hsdd, hhyp⟩
    exact ⟨(not_el3First_iff h3).2 hprio, hhyp, h3, hsdd⟩

/-- Settles O19: a trap's line answers where it holds and no earlier one does. Lines 1.3 and 1.4, 1.6b and 2.3b trap to an AArch64
level, lines 1.5 and 2.2 to Hyp mode. -/
theorem trapCodesAndTheirConditions : Obligations.TrapCodesAndTheirConditions := by
  intro c e
  refine ⟨fun target ec => ?_, fun ec => ?_⟩
  · simp only [accessCheck_iff, accessCheckEL1_eq, accessCheckEL2_eq, accessCheckEL3, ite_eq_iff, not_or, reduceCtorEq,
      and_false, false_or, or_false, AccessResult.trapA64.injEq, Bool.not_eq_true]
    constructor
    · rintro ⟨hfeat, ⟨hel, hfirst, ⟨hns, hcp⟩, ⟨ha64, rfl, rfl⟩ | ⟨ha64, hhyp, h3, hsdd, rfl, rfl⟩⟩ |
        ⟨hel, hfirst, hhyp, h3, hsdd, rfl, rfl⟩⟩
      · exact ⟨rfl, hfeat, .inl ⟨rfl, hel, ha64, hfirst, hns, hcp⟩⟩
      · exact ⟨rfl, hfeat, .inr ⟨rfl, h3, (not_el3First_iff h3).1 hfirst, hsdd, .inl ⟨hel, hns, hcp, ha64, hhyp⟩⟩⟩
      · exact ⟨rfl, hfeat, .inr ⟨rfl, h3, (not_el3First_iff h3).1 hfirst, hsdd, .inr ⟨hel, hhyp⟩⟩⟩
    · rintro ⟨rfl, hfeat, ⟨rfl, hel, ha64, hfirst, hns, hcp⟩ |
        ⟨rfl, h3, hprio, hsdd, ⟨hel, hns, hcp, ha64, hhyp⟩ | ⟨hel, hhyp⟩⟩⟩
      · exact ⟨hfeat, .inl ⟨hel, hfirst, ⟨hns, hcp⟩, .inl ⟨ha64, rfl, rfl⟩⟩⟩
      · exact ⟨hfeat, .inl ⟨hel, (not_el3First_iff h3).2 hprio, ⟨hns, hcp⟩, .inr ⟨ha64, hhyp, h3, hsdd, rfl, rfl⟩⟩⟩
      · exact ⟨hfeat, .inr ⟨hel, (not_el3First_iff h3).2 hprio, hhyp, h3, hsdd, rfl, rfl⟩⟩
  · simp only [accessCheck_iff, accessCheckEL1_eq, accessCheckEL2_eq, accessCheckEL3, ite_eq_iff, not_or, reduceCtorEq,
      and_false, false_or, or_false, AccessResult.hypTrap.injEq]
    constructor
    · rintro ⟨hfeat, ⟨hel, hfirst, ⟨hns, hcp⟩, -, hhyp, rfl⟩ | ⟨hel, hfirst, hhyp, rfl⟩⟩
      · exact ⟨hfeat, hfirst, .inl ⟨rfl, hel, hhyp, hns, hcp⟩⟩
      · exact ⟨hfeat, hfirst, .inr ⟨rfl, hel, hhyp⟩⟩
    · rintro ⟨hfeat, hfirst, ⟨rfl, hel, hhyp, hns, hcp⟩ | ⟨rfl, hel, hhyp⟩⟩
      · exact ⟨hfeat, .inl ⟨hel, hfirst, ⟨hns, hcp⟩, not_el2A64Objects_of_hypObjectsAtEL1 hhyp, hhyp, rfl⟩⟩
      · exact ⟨hfeat, .inr ⟨hel, hfirst, hhyp, rfl⟩⟩

/-- R59 b for EL1: without EL2 and EL3 only `CPACR.cp10` is left to object. -/
theorem accessCheck_withoutEL2EL3 {c : Config} {e : Env} (hfeat : c.featAA32EL1 = true) (hel2 : e.el2Enabled = false)
    (hhost : e.el2IsInHost = false) (hel3 : c.haveEL3 = false) (ha32 : c.featAA32EL3 = false) (hel : e.el = .el1)
    (hcp : e.cpacrCp10 ≠ 0b00#2) : accessCheck c e = .ok := by
  have h3 : ¬ el3Objects c e := by simp [el3Objects, hel3]
  have hns : ¬ nsacrObjects c e := by simp [nsacrObjects, ha32]
  have ha64 : ¬ el2A64Objects c e := by simp [el2A64Objects, hel2, hhost]
  have hhyp : ¬ hypObjectsAtEL1 c e := by simp [hypObjectsAtEL1, hel2]
  exact (accessCheckAllowsExactly c e).2 ⟨hfeat, .inl ⟨hel, h3, hns, hcp, ha64, hhyp⟩⟩

/-- Lines 1.1 and 1.2 between them answer UNDEFINED wherever the NSACR term or `CPACR.cp10` objects. -/
theorem accessCheck_undef_of_line12 {c : Config} {e : Env} (hfeat : c.featAA32EL1 = true) (hel : e.el = .el1)
    (h : nsacrObjects c e ∨ e.cpacrCp10 = 0b00#2) : ∃ l, accessCheck c e = .undef l := by
  obtain ⟨-, -, hline11, hline12, -⟩ := undefinedLinesAndTheirConditions c e
  by_cases hfirst : e.el3SDDUndefPriority = true ∧ el3Objects c e
  · exact ⟨.line11, hline11.2 ⟨hfeat, hel, hfirst⟩⟩
  · exact ⟨.line12, hline12.2 ⟨hfeat, hel, hfirst, h⟩⟩

/-- At EL3 `CPACR.cp10` alone decides (lines 3.1 and 3.2). -/
theorem accessCheck_el3 {c : Config} {e : Env} (hfeat : c.featAA32EL1 = true) (hel : e.el = .el3) :
    (e.cpacrCp10 = 0b00#2 → ∃ l, accessCheck c e = .undef l) ∧ (e.cpacrCp10 ≠ 0b00#2 → accessCheck c e = .ok) := by
  obtain ⟨-, -, -, -, -, -, -, hline31, -⟩ := undefinedLinesAndTheirConditions c e
  exact ⟨fun hcp => ⟨.line31, hline31.2 ⟨hfeat, hel, hcp⟩⟩,
    fun hcp => (accessCheckAllowsExactly c e).2 ⟨hfeat, .inr (.inr ⟨hel, hcp⟩)⟩⟩

/-- Settles O17: each configuration rules some controls out, and the lines of the others are those of O19, O59 and O60. -/
theorem accessCheckInFixedConfigurations : Obligations.AccessCheckInFixedConfigurations := by
  intro c e
  refine ⟨fun habsent => ⟨.lineA, accessCheck_absent c e habsent⟩,
    fun hfeat hel2 hhost hel3 ha32 => ⟨accessCheck_el0 c e, fun hel hcp => accessCheck_undef_of_line12 hfeat hel (.inr hcp),
      accessCheck_withoutEL2EL3 hfeat hel2 hhost hel3 ha32⟩,
    fun hfeat hno2 hno3 nsterm hnsterm => ?_, accessCheck_el0 c e⟩
  obtain rfl : nsterm = nsacrObjects c e := propext hnsterm
  have h3 : ¬ el3Objects c e := by simp [el3Objects, hno3]
  have ha64 : ¬ el2A64Objects c e := by simp [el2A64Objects, hno2]
  obtain ⟨htrapA64, hhypTrap⟩ := trapCodesAndTheirConditions c e
  have hfirst : ¬ (e.el3SDDUndefPriority = true ∧ el3Objects c e) := fun h => h3 h.2
  refine ⟨fun target ec htrap => ?_, accessCheck_undef_of_line12 hfeat, fun hel hno => ?_, fun hel hhyp => ?_,
    fun hel hhyp => ?_, fun hel => (accessCheck_el3 hfeat hel).1, fun hel => (accessCheck_el3 hfeat hel).2⟩
  · obtain ⟨-, -, ⟨-, -, ha64', -⟩ | ⟨-, h3', -⟩⟩ := (htrapA64 target ec).1 htrap
    · exact ha64 ha64'
    · exact h3 h3'
  · obtain ⟨hns, hcp⟩ := not_or.1 hno
    exact ⟨fun hhyp => (hhypTrap 0x08).2 ⟨hfeat, hfirst, .inl ⟨rfl, hel, hhyp, hns, hcp⟩⟩,
      fun hhyp => (accessCheckAllowsExactly c e).2 ⟨hfeat, .inl ⟨hel, h3, hns, hcp, ha64, hhyp⟩⟩⟩
  · exact (hhypTrap 0x00).2 ⟨hfeat, hfirst, .inr ⟨rfl, hel, hhyp⟩⟩
  · exact (accessCheckAllowsExactly c e).2 ⟨hfeat, .inr (.inl ⟨hel, h3, hhyp⟩)⟩

end Sys2Proof.Machine
end

section
/-! SUPPORT. The Effective value of EN by the rows of the Note (R64 to R66), its gate (R60 to R62), and the controls of R63. -/

namespace Sys2Proof.Machine

/-- Only EL0 is named in the Note. -/
theorem effectiveEN_of_not_el0 (c : Config) {e : Env} (en : Bool) (hel : e.el ≠ .el0) : effectiveEN c e en = en :=
  if_neg hel

theorem effectiveEN_of_el1A64 (c : Config) {e : Env} (en : Bool) (hel : e.el = .el0) (h1 : e.el1UsingAArch64 = true) :
    effectiveEN c e en = true := by
  rw [effectiveEN, if_pos hel, if_pos h1]

/-- At EL0 under an AArch32 EL1 and an AArch64 EL2 with TGE 1, RW and the parameter decide (R65). -/
theorem effectiveEN_of_tge (c : Config) {e : Env} (en : Bool) (hel : e.el = .el0) (h1 : e.el1UsingAArch64 = false)
    (h2 : e.el2UsingAArch64 = true) (hen2 : e.el2Enabled = true) (htge : e.hcrEl2Tge = 1#1) :
    effectiveEN c e en = if e.hcrEl2Rw = 1#1 ∨ c.enEl0TgeRw0 = .one then true else en := by
  simp only [effectiveEN, hel, h1, h2, hen2, htge]
  cases hparam : c.enEl0TgeRw0 <;> simp

theorem effectiveEN_of_no_tge (c : Config) {e : Env} (en : Bool) (h1 : e.el1UsingAArch64 = false)
    (h2 : e.el2UsingAArch64 = false ∨ e.el2Enabled = false ∨ e.hcrEl2Tge = 0#1) : effectiveEN c e en = en := by
  by_cases hel : e.el = .el0
  · rw [effectiveEN, if_pos hel, h1]
    rcases h2 with h | h | h <;> simp [h]
  · exact effectiveEN_of_not_el0 c en hel

/-- Settles O40: by the rows of the Note; with RW 1 it does not matter which execution state EL1 uses. -/
theorem effectiveEnAtEL0 : Obligations.EffectiveEnAtEL0 := by
  intro c e en hel
  refine ⟨effectiveEN_of_el1A64 c en hel, fun h2 hen2 htge hrw => ?_, fun h1 h2 hen2 htge hrw => ?_⟩
  · cases h1 : e.el1UsingAArch64
    · rw [effectiveEN_of_tge c en hel h1 h2 hen2 htge, if_pos (.inl hrw)]
    · exact effectiveEN_of_el1A64 c en hel h1
  · rw [effectiveEN_of_tge c en hel h1 h2 hen2 htge, hrw]
    exact ⟨fun hone => by simp [hone], fun hwritten => by simp [hwritten]⟩

/-- Settles O41: outside EL0, and at EL0 where no row of the Note applies. -/
theorem effectiveEnElsewhereIsTheBit : Obligations.EffectiveEnElsewhereIsTheBit := by
  rintro c e en (hel | ⟨h1, h2⟩)
  · exact effectiveEN_of_not_el0 c en hel
  · exact effectiveEN_of_no_tge c en h1 h2

/-- Each control under its own condition (R63). -/
theorem mem_controlsOf (k : Control) (e : Env) (advSimd : Bool) : k ∈ controlsOf e advSimd ↔
    k = .cpacrCp10 ∨ (e.el = .el0 ∧ k = .cpacrEl1Fpen) ∨ k = .fpexcEn ∨
    (e.nonSecure = true ∧
      (k = (if e.el2UsingAArch64 = true then .cptrEl2Tfp else .hcptrTcp10) ∨
       k = (if e.el3UsingAArch64 = true then .cptrEl3Tfp else .nsacrCp10))) ∨
    (advSimd = true ∧ (k = .cpacrAsedis ∨ (e.nonSecure = true ∧ (k = .hcptrTase ∨ k = .nsacrNsasedis)))) := by
  simp only [controlsOf, List.mem_append, List.mem_ite_nil_right, List.mem_cons, List.not_mem_nil, or_false, or_assoc]

/-- Settles O49: of the conditions under which a control is in the list, only its own is about it. -/
theorem controlsThatMayDisableAnInstruction : Obligations.ControlsThatMayDisableAnInstruction := by
  intro e advSimd
  simp only [mem_controlsOf]
  cases e.el2UsingAArch64 <;> cases e.el3UsingAArch64 <;> simp

/-- The accesses the gate exempts are those of R62's list. -/
theorem isExemptAccess_iff (a : FPAccess) : isExemptAccess a = true ↔
    a = .vmsr .fpexc ∨ a = .vmsr .fpsid ∨ a = .vmrs .fpexc ∨ a = .vmrs .fpsid ∨ a = .vmrs .mvfr0 ∨ a = .vmrs .mvfr1 ∨
      a = .vmrs .mvfr2 := by
  cases a with
  | vmsr r => cases r <;> simp [isExemptAccess]
  | vmrs r => cases r <;> simp [isExemptAccess]
  | other r => simp [isExemptAccess]

theorem gatedBy_of_mem {l : List FPAccess} {a : FPAccess} (ha : a ∈ l) (hreg : isGatedReg (accessReg a) = true)
    (hexempt : isExemptAccess a = false) : gatedBy l = true :=
  List.any_eq_true.2 ⟨a, ha, by rw [hreg, hexempt]; rfl⟩

theorem gatedBy_of_exempt {l : List FPAccess} (h : ∀ a ∈ l, isExemptAccess a = true) : gatedBy l = false :=
  List.any_eq_false.2 fun a ha => by simp [h a ha]

/-- An access to the FPSCR or, by another instruction, to a SIMD register puts the whole instruction behind the gate (R60). -/
theorem gatedBy_of_fpscr_or_simd {l : List FPAccess}
    (h : ∃ a ∈ l, a = .other .fpscr ∨ a = .vmrs .fpscr ∨ a = .vmsr .fpscr ∨
      (∃ n, a = .other (.q n)) ∨ (∃ n, a = .other (.d n)) ∨ (∃ n, a = .other (.s n))) : gatedBy l = true := by
  obtain ⟨a, ha, rfl | rfl | rfl | ⟨n, rfl⟩ | ⟨n, rfl⟩ | ⟨n, rfl⟩⟩ := h <;> exact gatedBy_of_mem ha rfl rfl

/-- A gated access uses up a draw and otherwise changes the outcome at most (D10, entry 16). -/
theorem inputGatedAccess_eq (l : List FPAccess) (s : State) : inputGatedAccess l s =
    { drawn s with
      outcome := if gatedBy l = true ∧ effectiveEN s.cfg s.env (enSeen s) = false then some (.undefined .enGate)
                 else s.outcome } := by
  rw [inputGatedAccess]
  cases gatedBy l <;> cases effectiveEN s.cfg s.env (enSeen s) <;> rfl

/-- The turn of a gated access while the run goes on. -/
theorem step_gatedAccess (s : State) (l : List FPAccess) (rest : List Input) (hinputs : s.inputs = .gatedAccess l :: rest)
    (houtcome : s.outcome = none) : step s = .next { drawn s with
      outcome := if gatedBy l = true ∧ effectiveEN s.cfg s.env (enSeen s) = false then some (.undefined .enGate) else none
      inputs := rest } := by
  rw [step_input s _ rest hinputs, applyInput, whileRunning, houtcome, inputGatedAccess_eq]
  rfl

/-- Settles O42: a register of R60 in the list closes the gate to the instruction, and no access of R62's list does. -/
theorem closedGateIsUndefinedAtAllLevels : Obligations.ClosedGateIsUndefinedAtAllLevels := by
  intro s l rest hinputs houtcome hen
  refine ⟨_, step_gatedAccess s l rest hinputs houtcome, rfl, rfl, rfl, fun hgated => ?_, fun hexempt => ?_⟩
  · exact if_pos ⟨gatedBy_of_fpscr_or_simd hgated, hen⟩
  · have hnot : gatedBy l = false := gatedBy_of_exempt fun a ha => (isExemptAccess_iff a).2 (hexempt a ha)
    exact if_neg fun hclosed => by rw [hnot] at hclosed; cases hclosed.1

/-- Settles O43: whatever the list, the gate asks for an Effective EN of 0. -/
theorem openGateRaisesNothing : Obligations.OpenGateRaisesNothing := by
  intro s l rest hinputs houtcome hen
  refine ⟨_, step_gatedAccess s l rest hinputs houtcome, if_neg fun hclosed => ?_, rfl, rfl, rfl, rfl⟩
  rw [hen] at hclosed
  cases hclosed.2

end Sys2Proof.Machine
end

section
/-! SUPPORT. Whose turn a step is, and that none of an instruction's kind is taken once an outcome is raised (R74, R79). -/

namespace Sys2Proof.Machine

theorem whileRunning_of_running (r : Host.Outcome State Fault Refusal) {s : State} (h : s.outcome = none) :
    whileRunning r s = r := by
  rw [whileRunning, h]

theorem whileRunning_of_ended (r : Host.Outcome State Fault Refusal) {s : State} {o : Raised} (h : s.outcome = some o) :
    whileRunning r s = .fault (.runEnded o) := by
  rw [whileRunning, h]

theorem step_no_input (s : State) (h : s.inputs = []) : step s = runInstruction s := by
  rw [step, h]

/-- Settles O51: each of these turns asks first whether the run goes on. -/
theorem noInstructionRunsAfterAnOutcome : Obligations.NoInstructionRunsAfterAnOutcome := by
  intro s i rest o hinputs houtcome hi
  rw [step_input s i rest hinputs]
  obtain ⟨p, rfl⟩ | ⟨c, rfl⟩ | rfl | ⟨l, rfl⟩ := hi <;> exact whileRunning_of_ended _ houtcome

/-- Settles O7: of the turns O51 names the second clause asks for an instruction's; with nothing queued it is the same test. -/
theorem inputsComeFirstAndAnOutcomeEndsTheRun : Obligations.InputsComeFirstAndAnOutcomeEndsTheRun := by
  refine fun s => ⟨step_input s, fun o houtcome hturn => ?_⟩
  obtain hnone | ⟨passed, rest, hinputs⟩ := hturn
  · rw [step_no_input s hnone]
    exact whileRunning_of_ended _ houtcome
  · exact noInstructionRunsAfterAnOutcome s _ rest o hinputs houtcome (.inl ⟨passed, rfl⟩)

/-- Settles O50: none of the three turns asks whether the run goes on, and each writes only what it supplies. -/
theorem enclosingModelTakesOver : Obligations.EnclosingModelTakesOver := by
  intro s rest
  refine ⟨fun e hinputs => step_input s _ rest hinputs, fun x pc e hinputs => step_input s _ rest hinputs,
    fun v hinputs => ⟨_, step_input s _ rest hinputs, ?_⟩⟩
  exact ⟨setFPEXC_fpexc _ _, setFPEXC_x _ _, setFPEXC_pc _ _, setFPEXC_outcome _ _⟩

end Sys2Proof.Machine
end

section
/-! SUPPORT. The priority of AccessCheck's lines (R73), out of the conditions of each answer. -/

namespace Sys2Proof.Machine

/-- Settles O18: what each clause assumes is what O60 and O19 ask for its line. -/
theorem firstConditionOfAccessCheckWins : Obligations.FirstConditionOfAccessCheckWins := by
  intro c e
  obtain ⟨hlineA, hlineB, hline11, hline12, -, hline21, -⟩ := undefinedLinesAndTheirConditions c e
  obtain ⟨htrapA64, hhypTrap⟩ := trapCodesAndTheirConditions c e
  refine ⟨hlineA.2, fun hfeat hel => hlineB.2 ⟨hfeat, hel⟩,
    fun hfeat hprio h3 => ⟨fun hel => hline11.2 ⟨hfeat, hel, hprio, h3⟩, fun hel => hline21.2 ⟨hfeat, hel, hprio, h3⟩⟩,
    fun hfeat hel hfirst => ⟨fun hcp => hline12.2 ⟨hfeat, hel, hfirst, .inr hcp⟩,
      fun hns => hline12.2 ⟨hfeat, hel, hfirst, .inl hns⟩, fun hcp hns => ?_⟩⟩
  have htrapEL2 (ha64 : el2A64Objects c e) : accessCheck c e = .trapA64 .el2 0x07 :=
    (htrapA64 .el2 0x07).2 ⟨rfl, hfeat, .inl ⟨rfl, hel, ha64, hfirst, hns, hcp⟩⟩
  have htrapHyp (hhyp : hypObjectsAtEL1 c e) : accessCheck c e = .hypTrap 0x08 :=
    (hhypTrap 0x08).2 ⟨hfeat, hfirst, .inl ⟨rfl, hel, hhyp, hns, hcp⟩⟩
  exact ⟨fun hen2 hha64 hnot32 hnotHost htfp => htrapEL2 ⟨hha64, hnot32, .inl ⟨hen2, hnotHost, htfp⟩⟩,
    fun hha64 hnot32 hhost hfpen => htrapEL2 ⟨hha64, hnot32, .inr ⟨hhost, hfpen⟩⟩,
    fun hen2 hha32 h32 htcp => htrapHyp ⟨hen2, hha32, h32, htcp⟩⟩

end Sys2Proof.Machine
end

section
/-! SUPPORT. The turns that record an exception (R74, R75): what each writes, and the events that cannot arise. -/

namespace Sys2Proof.Machine

/-- The turn of an `FPSyncException` that can arise, while the run goes on. -/
theorem step_fpException (s : State) (cause : FPCause) (rest : List Input) (hinputs : s.inputs = .fpException cause :: rest)
    (houtcome : s.outcome = none) (hpossible : fpCausePossible s.cfg s.env cause = true) :
    step s = .next { s with
      fpexc := recordFP s.cfg cause s.fpexc, outcome := some (.fpSyncException cause), inputs := rest } :=
  (step_input s _ rest hinputs).trans ((whileRunning_of_running _ houtcome).trans (if_pos hpossible))

theorem step_fpException_refused (s : State) (cause : FPCause) (rest : List Input)
    (hinputs : s.inputs = .fpException cause :: rest) (houtcome : s.outcome = none)
    (himpossible : ¬ fpCausePossible s.cfg s.env cause = true) : step s = .refused .impossibleInput :=
  (step_input s _ rest hinputs).trans ((whileRunning_of_running _ houtcome).trans (if_neg himpossible))

/-- The turn of an exception from an unallocated encoding, while the run goes on. -/
theorem step_unallocated (s : State) (rest : List Input) (hinputs : s.inputs = .unallocated :: rest)
    (houtcome : s.outcome = none) : step s =
    if s.env.executingCp10or11 = true then .next { s with
      fpexc := recordUnallocated s.cfg s.fpexc, outcome := some .unallocatedCp10or11, inputs := rest }
    else .refused .impossibleInput :=
  (step_input s _ rest hinputs).trans (whileRunning_of_running _ houtcome)

/-- `n` is the place of an exception's flag and `inX` whether the exception is in `X` (R22, R24 to R28). -/
def isExcBit (X : ExcSet) (n : Nat) (inX : Bool) : Prop :=
  (n = 7 ∧ inX = X.id) ∨ (n = 4 ∧ inX = X.ix) ∨ (n = 3 ∧ inX = X.uf) ∨ (n = 2 ∧ inX = X.of) ∨
    (n = 1 ∧ inX = X.dz) ∨ (n = 0 ∧ inX = X.io)

theorem recordTrapped_dex (c : Config) (X : ExcSet) (S : Word) : (recordTrapped c X S).getLsbD 29 = true := by
  rw [recordTrapped_bit c X S 29 (by omega)]; simp

theorem recordTrapped_tfv (c : Config) (X : ExcSet) (S : Word) : (recordTrapped c X S).getLsbD 26 = true := by
  rw [recordTrapped_bit c X S 26 (by omega)]; simp

/-- A flag after the record: set by `X`, else as `P_FLAG_OVERWRITE` has it. -/
theorem recordTrapped_flag (c : Config) (S : Word) {X : ExcSet} {n : Nat} {inX : Bool} (h : isExcBit X n inX) :
    (recordTrapped c X S).getLsbD n = (S.getLsbD n && !c.flagOverwrite || inX) := by
  obtain ⟨rfl, rfl⟩ | ⟨rfl, rfl⟩ | ⟨rfl, rfl⟩ | ⟨rfl, rfl⟩ | ⟨rfl, rfl⟩ | ⟨rfl, rfl⟩ := h <;>
    rw [recordTrapped_bit c X S _ (by omega), excMask_bit] <;> simp

/-- Settles O33: the record field by field; outside DEX, TFV and the flags it reaches nothing. -/
theorem trappedExceptionIsRecorded : Obligations.TrappedExceptionIsRecorded := by
  intro s X hd hf rest hinputs houtcome hpossible
  refine ⟨_, step_fpException s _ rest hinputs houtcome hpossible, recordTrapped_dex _ _ _, recordTrapped_tfv _ _ _,
    fun n inX hflag => ?_, and_eq_and_of_bits fun n hn hm => ?_, rfl, rfl, rfl, rfl⟩
  · have hrecord : (recordFP s.cfg (.trapped X hd hf) s.fpexc).getLsbD n =
        (s.fpexc.getLsbD n && !s.cfg.flagOverwrite || inX) := recordTrapped_flag s.cfg s.fpexc hflag
    exact ⟨fun hin => by simp [hrecord, hin], fun hout hoverwrite => by simp [hrecord, hout, hoverwrite],
      fun hout hkeep => by simp [hrecord, hout, hkeep]⟩
  · have houtside : ∀ k < 32, (~~~0x2400009F#32).getLsbD k = true → k ≠ 29 ∧ k ≠ 26 ∧ k ≠ 7 ∧ 4 < k := by decide
    obtain ⟨hdex, htfv, hidf, hlow⟩ := houtside n hn hm
    exact recordFP_bit_other s.cfg _ s.fpexc n hn hdex htfv hidf hlow

theorem recordShortVector_dex (S : Word) : (recordShortVector S).getLsbD 29 = true := by
  rw [recordShortVector_bit, mDEX_bit, mTFV_bit]; simp

theorem recordShortVector_tfv (S : Word) : (recordShortVector S).getLsbD 26 = false := by
  rw [recordShortVector_bit, mTFV_bit]; simp

/-- The record of a short-vector exception reaches DEX and TFV only (R74). -/
theorem recordShortVector_bit_other (S : Word) (n : Nat) (hn : n < 32) (hdex : n ≠ 29) (htfv : n ≠ 26) :
    (recordShortVector S).getLsbD n = S.getLsbD n := by
  rw [recordShortVector_bit, mDEX_bit, mTFV_bit, decide_eq_false hdex, decide_eq_false htfv, decide_eq_true hn]
  simp

theorem fpCausePossible_shortVector_iff (c : Config) (e : Env) (b : ShortVectorInstr) :
    fpCausePossible c e (.shortVector b) = true ↔ e.executingCp10or11 = true ∧ c.lenStrideRaz = false ∧
      (e.fpscrStrideNonzero = true ∨ e.fpscrLenNonzero = true) := by
  simp only [fpCausePossible, Bool.and_eq_true, Bool.or_eq_true, Bool.not_eq_true']

/-- Settles O34: the hypotheses are what makes the cause possible, and the record reaches DEX and TFV only. -/
theorem shortVectorExceptionIsRecorded : Obligations.ShortVectorExceptionIsRecorded := by
  intro s b rest hinputs houtcome hexecuting hraz hnonzero
  have hpossible := (fpCausePossible_shortVector_iff s.cfg s.env b).2 ⟨hexecuting, hraz, hnonzero⟩
  refine ⟨_, step_fpException s _ rest hinputs houtcome hpossible, recordShortVector_dex _, recordShortVector_tfv _,
    and_eq_and_of_bits fun n hn hm => ?_, rfl, rfl, rfl⟩
  have houtside : ∀ k < 32, (~~~0x24000000#32).getLsbD k = true → k ≠ 29 ∧ k ≠ 26 := by decide
  obtain ⟨hdex, htfv⟩ := houtside n hn hm
  exact recordShortVector_bit_other s.fpexc n hn hdex htfv

theorem recordUnallocated_dex (c : Config) (S : Word) (h : c.dexClearOnUnalloc = true) :
    (recordUnallocated c S).getLsbD 29 = false := by
  rw [recordUnallocated_bit c S 29 (by omega), h, mDEX_bit]; simp

/-- Settles O35: the record reaches DEX only, and that only under the parameter. -/
theorem unallocatedExceptionIsRecorded : Obligations.UnallocatedExceptionIsRecorded := by
  intro s rest hinputs houtcome hexecuting
  refine ⟨_, (step_unallocated s rest hinputs houtcome).trans (if_pos hexecuting), and_eq_and_of_bits fun n hn hm => ?_,
    fun hclear => ?_, fun hkeep => ?_, rfl, rfl, rfl⟩
  · have houtside : ∀ k < 32, (~~~0x20000000#32).getLsbD k = true → k ≠ 29 := by decide
    exact recordUnallocated_bit_other s.cfg s.fpexc n hn (houtside n hn hm)
  · exact recordUnallocated_dex s.cfg s.fpexc hclear
  · simp [recordUnallocated, hkeep]

theorem trappable_iff {inX impl : Bool} {enable : BitVec 1} :
    trappable inX impl enable = true ↔ (inX = true → impl = true ∧ enable = 1#1) := by
  cases inX <;> simp [trappable]

theorem idCanOccur_iff {e : Env} {hf : Bool} :
    idCanOccur e hf = true ↔ e.fpscrFz = 1#1 ∧ ¬ (hf = true ∧ e.fpscrFz16 = 1#1) := by
  cases hf <;> simp [idCanOccur]

theorem ufCanOccur_iff {e : Env} {hd : Bool} : ufCanOccur e hd = true ↔
    (hd = true → e.fpscrFz16 = 0#1) ∧ (hd = false → e.fpscrFz = 0#1) := by
  cases hd <;> simp [ufCanOccur]

/-- When trapped exceptions can arise (R74): some are in `X`, each implemented and enabled, Input Denormal and Underflow as FZ and
FZ16 allow (R22, R25). -/
theorem fpCausePossible_trapped_iff (c : Config) (e : Env) (X : ExcSet) (hd hf : Bool) :
    fpCausePossible c e (.trapped X hd hf) = true ↔ e.executingCp10or11 = true ∧ excNonempty X = true ∧
      (X.id = true → c.trapIde = true ∧ e.fpscrIde = 1#1) ∧ (X.ix = true → c.trapIxe = true ∧ e.fpscrIxe = 1#1) ∧
      (X.uf = true → c.trapUfe = true ∧ e.fpscrUfe = 1#1) ∧ (X.of = true → c.trapOfe = true ∧ e.fpscrOfe = 1#1) ∧
      (X.dz = true → c.trapDze = true ∧ e.fpscrDze = 1#1) ∧ (X.io = true → c.trapIoe = true ∧ e.fpscrIoe = 1#1) ∧
      (X.id = true → e.fpscrFz = 1#1 ∧ ¬ (hf = true ∧ e.fpscrFz16 = 1#1)) ∧
      (X.uf = true → (hd = true → e.fpscrFz16 = 0#1) ∧ (hd = false → e.fpscrFz = 0#1)) := by
  simp only [fpCausePossible, Bool.and_eq_true, Bool.or_eq_true, Bool.not_eq_true', trappable_iff, idCanOccur_iff,
    ufCanOccur_iff, ← Bool.not_eq_true, ← imp_iff_not_or, and_assoc]

theorem executing_of_possible {c : Config} {e : Env} {cause : FPCause} (h : fpCausePossible c e cause = true) :
    e.executingCp10or11 = true :=
  (Bool.and_eq_true_iff.1 h).1

theorem ne_one_of_eq_zero {b : BitVec 1} (h : b = 0#1) : b ≠ 1#1 := by subst h; decide

theorem not_enabled {impl : Bool} {enable : BitVec 1} (h : impl = false ∨ enable = 0#1) :
    ¬ (impl = true ∧ enable = 1#1) := by
  rintro ⟨himpl, henable⟩
  rcases h with h | h
  · rw [himpl] at h; cases h
  · exact ne_one_of_eq_zero h henable

/-- Settles O36: each event of the list misses a condition for its cause to arise. -/
theorem impossibleEventsAreRefused : Obligations.ImpossibleEventsAreRefused := by
  refine ⟨fun s rest hinputs houtcome houtside => ?_, fun s cause rest hinputs houtcome hcannot => ?_⟩
  · rw [step_unallocated s rest hinputs houtcome, houtside]; rfl
  refine step_fpException_refused s cause rest hinputs houtcome fun hpossible => ?_
  obtain houtside | ⟨b, rfl, hraz⟩ | ⟨b, rfl, hstride, hlen⟩ | ⟨X, hd, hf, rfl, hX⟩ := hcannot
  · rw [executing_of_possible hpossible] at houtside
    cases houtside
  · obtain ⟨-, hnotRaz, -⟩ := (fpCausePossible_shortVector_iff s.cfg s.env b).1 hpossible
    rw [hraz] at hnotRaz
    cases hnotRaz
  · obtain ⟨-, -, hnonzero⟩ := (fpCausePossible_shortVector_iff s.cfg s.env b).1 hpossible
    simp [hstride, hlen] at hnonzero
  · obtain ⟨-, hsome, hid, hix, huf, hof, hdz, hio, hdenormal, hunderflow⟩ :=
      (fpCausePossible_trapped_iff s.cfg s.env X hd hf).1 hpossible
    obtain rfl | ⟨hin, h⟩ | ⟨hin, h⟩ | ⟨hin, h⟩ | ⟨hin, h⟩ | ⟨hin, h⟩ | ⟨hin, h⟩ := hX
    · cases hsome
    · obtain ⟨hfz, hfz16⟩ := hdenormal hin
      obtain h | h | h | h := h
      · exact not_enabled (.inl h) (hid hin)
      · exact not_enabled (.inr h) (hid hin)
      · exact ne_one_of_eq_zero h hfz
      · exact hfz16 h
    · exact not_enabled h (hix hin)
    · obtain ⟨hhalf, hother⟩ := hunderflow hin
      obtain h | h | ⟨hdata, hfz16⟩ | ⟨hdata, hfz⟩ := h
      · exact not_enabled (.inl h) (huf hin)
      · exact not_enabled (.inr h) (huf hin)
      · exact ne_one_of_eq_zero (hhalf hdata) hfz16
      · exact ne_one_of_eq_zero (hother hdata) hfz
    · exact not_enabled h (hof hin)
    · exact not_enabled h (hdz hin)
    · exact not_enabled h (hio hin)

end Sys2Proof.Machine
end

section
/-! SUPPORT. What a handler makes of the records: a second one before the first is read (R80), the cause one read shows (R77), and
its duty (R76). -/

namespace Sys2Proof.Machine

/-- The exceptions of two sets are those of both. -/
theorem excMask_union (X Y : ExcSet) :
    excMask ⟨X.id || Y.id, X.ix || Y.ix, X.uf || Y.uf, X.of || Y.of, X.dz || Y.dz, X.io || Y.io⟩ =
      excMask X ||| excMask Y := by
  apply BitVec.eq_of_getLsbD_eq
  intro n _
  rw [BitVec.getLsbD_or, excMask_bit, excMask_bit, excMask_bit]
  simp only [Bool.and_or_distrib_left]
  ac_rfl

theorem place_of_excMask {X : ExcSet} {n : Nat} (h : (excMask X).getLsbD n = true) : n = 7 ∨ n ≤ 4 := by
  simp only [excMask_bit, Bool.or_eq_true, Bool.and_eq_true, beq_iff_eq] at h
  omega

/-- Under P_FLAG_OVERWRITE nothing of an earlier record is left: DEX and TFV are set again, the flags are not kept. -/
theorem recordTrapped_overwrites (c : Config) (X Y : ExcSet) (S : Word) (h : c.flagOverwrite = true) :
    recordTrapped c Y (recordTrapped c X S) = recordTrapped c Y S := by
  apply BitVec.eq_of_getLsbD_eq
  intro n hn
  simp only [recordTrapped_bit _ _ _ n hn, h]
  cases hX : (excMask X).getLsbD n
  · cases n == 29 <;> cases n == 26 <;> simp
  · have hflag : (n == 7 || decide (n ≤ 4)) = true := by simpa using place_of_excMask hX
    simp only [hflag, Bool.and_true, Bool.not_true, Bool.and_false]

/-- Otherwise the records add up. -/
theorem recordTrapped_merges (c : Config) (X Y : ExcSet) (S : Word) (h : c.flagOverwrite = false) :
    recordTrapped c Y (recordTrapped c X S) =
      recordTrapped c ⟨X.id || Y.id, X.ix || Y.ix, X.uf || Y.uf, X.of || Y.of, X.dz || Y.dz, X.io || Y.io⟩ S := by
  apply BitVec.eq_of_getLsbD_eq
  intro n hn
  simp only [recordTrapped_bit _ _ _ n hn, h, excMask_union, BitVec.getLsbD_or]
  cases n == 29 <;> cases n == 26 <;> simp [Bool.or_assoc]

/-- Settles O37: a record sets DEX and TFV whatever was there; the flags are those of the second, or of both. -/
theorem secondRecordMergesIntoTheFirst : Obligations.SecondRecordMergesIntoTheFirst := by
  intro c X Y S b _ _ _ _
  exact ⟨recordTrapped_dex _ _ _, recordTrapped_tfv _ _ _, recordTrapped_overwrites c X Y S, recordTrapped_merges c X Y S,
    recordShortVector_dex _, recordShortVector_tfv _⟩

/-! The rows of R77. -/

theorem causeOfRead_eq_unallocated_iff {c : Config} {r : Word} :
    causeOfRead c r = .unallocated ↔ dexRes0 c = true ∨ r.getLsbD 29 = false := by
  simp only [causeOfRead, ite_eq_iff, Bool.or_eq_true, Bool.not_eq_true', reduceCtorEq, and_true, and_false, or_false]

theorem causeOfRead_eq_shortVector_iff {c : Config} {r : Word} :
    causeOfRead c r = .shortVector ↔ dexRes0 c = false ∧ r.getLsbD 29 = true ∧ r.getLsbD 26 = false := by
  simp [causeOfRead, ite_eq_iff, and_assoc]

theorem causeOfRead_eq_trapped_iff {c : Config} {r : Word} {X : ExcSet} :
    causeOfRead c r = .trapped X ↔ dexRes0 c = false ∧ r.getLsbD 29 = true ∧ r.getLsbD 26 = true ∧ flagsOf r = X := by
  simp [causeOfRead, ite_eq_iff, and_assoc]

/-- The flags of a read are `X` where each shows whether its exception is in `X`. -/
theorem flagsOf_eq {r : Word} {X : ExcSet} (h : ∀ n inX, isExcBit X n inX → r.getLsbD n = inX) : flagsOf r = X := by
  have hid := h 7 X.id (by simp [isExcBit])
  have hix := h 4 X.ix (by simp [isExcBit])
  have huf := h 3 X.uf (by simp [isExcBit])
  have hof := h 2 X.of (by simp [isExcBit])
  have hdz := h 1 X.dz (by simp [isExcBit])
  have hio := h 0 X.io (by simp [isExcBit])
  rw [flagsOf, hid, hix, huf, hof, hdz, hio]

/-- Of the exceptions that can arise each has its flag implemented (R74). -/
theorem implemented_of_possible {c : Config} {e : Env} {X : ExcSet} {hd hf : Bool}
    (hpossible : fpCausePossible c e (.trapped X hd hf) = true) {n : Nat} {inX : Bool} (h : isExcBit X n inX) :
    ∃ impl, isFlagBit c n impl ∧ (inX = true → impl = true) := by
  obtain ⟨-, hid, hix, huf, hof, hdz, hio⟩ := fpCausePossible_trapped c e X hd hf hpossible
  obtain ⟨rfl, rfl⟩ | ⟨rfl, rfl⟩ | ⟨rfl, rfl⟩ | ⟨rfl, rfl⟩ | ⟨rfl, rfl⟩ | ⟨rfl, rfl⟩ := h
  · exact ⟨c.trapIde, by simp [isFlagBit], hid⟩
  · exact ⟨c.trapIxe, by simp [isFlagBit], hix⟩
  · exact ⟨c.trapUfe, by simp [isFlagBit], huf⟩
  · exact ⟨c.trapOfe, by simp [isFlagBit], hof⟩
  · exact ⟨c.trapDze, by simp [isFlagBit], hdz⟩
  · exact ⟨c.trapIoe, by simp [isFlagBit], hio⟩

/-- A cause that can arise leaves DEX live (R15). -/
theorem dexRes0_of_possible {c : Config} {e : Env} {cause : FPCause} (h : fpCausePossible c e cause = true) :
    dexRes0 c = false := by
  rw [Bool.eq_false_iff]
  intro hres0
  obtain ⟨htrap, hraz⟩ : trapAny c = false ∧ c.lenStrideRaz = true := by simpa [dexRes0] using hres0
  rw [fpCausePossible_of_dexRes0 c e cause htrap hraz] at h
  cases h

theorem trapAny_of_possible {c : Config} {e : Env} {X : ExcSet} {hd hf : Bool}
    (h : fpCausePossible c e (.trapped X hd hf) = true) : trapAny c = true := by
  obtain ⟨hsome, hid, hix, huf, hof, hdz, hio⟩ := fpCausePossible_trapped c e X hd hf h
  simp only [excNonempty, Bool.or_eq_true] at hsome
  simp only [trapAny, Bool.or_eq_true]
  exact hsome.imp (Or.imp (Or.imp (Or.imp (Or.imp hid hix) huf) hof) hdz) hio

/-- Where DEX is live a read gives it as stored. -/
theorem readDex_live (c : Config) (S u : Word) (h : dexRes0 c = false) : (readFPEXC c S u).getLsbD 29 = S.getLsbD 29 := by
  rw [readDex_bit, readDex, h]; rfl

/-- A trapped exception on record reads TFV as 1: it is stored, or RAO/WI (R19). -/
theorem readTfv_of_trapped (c : Config) (S u : Word) (htrap : trapAny c = true) (hdex : S.getLsbD 29 = true)
    (htfv : S.getLsbD 26 = true) : (readFPEXC c S u).getLsbD 26 = true := by
  obtain ⟨-, hstatus, hrao, -⟩ := tfvReadsByKindAndIgnoresWrites c S u S (trapAny c) rfl
  cases hraz : c.lenStrideRaz
  · rw [hstatus htrap hraz, hdex, if_pos rfl, htfv]
  · exact hrao htrap hraz

/-- A short-vector exception on record reads TFV as 0: it is stored, or RAZ/WI (R19). -/
theorem readTfv_of_shortVector (c : Config) (S u : Word) (hraz : c.lenStrideRaz = false) (hdex : S.getLsbD 29 = true)
    (htfv : S.getLsbD 26 = false) : (readFPEXC c S u).getLsbD 26 = false := by
  obtain ⟨-, hstatus, -, hrazwi, -⟩ := tfvReadsByKindAndIgnoresWrites c S u S (trapAny c) rfl
  cases htrap : trapAny c
  · exact hrazwi htrap hraz
  · rw [hstatus htrap hraz, hdex, if_pos rfl, htfv]

theorem mFlags_of_isFlagBit {c : Config} {n : Nat} {impl : Bool} (h : isFlagBit c n impl) : mFlags.getLsbD n = true := by
  have hplace := isFlagBit_place h
  have hall : ∀ k < 8, k = 7 ∨ k ≤ 4 → mFlags.getLsbD k = true := by decide
  exact hall n (by omega) hplace

/-- The handler's duty on the flags, bit by bit: an implemented one is 0 (R76). -/
theorem flag_clear_of_duty {c : Config} {S : Word} {n : Nat} (h : S &&& mFlags &&& wMask c = 0x00000000#32)
    (hflag : isFlagBit c n true) : S.getLsbD n = false := by
  have hbit := congrArg (fun w => w.getLsbD n) h
  simpa only [BitVec.getLsbD_and, mFlags_of_isFlagBit hflag, (flagBit_read c S S n true hflag).2, Bool.and_true,
    BitVec.getLsbD_zero] using hbit

/-- A read after the record of trapped exceptions shows exactly those, where no implemented flag was left over (R76) or the record
drops what was. -/
theorem causeOfRead_recordTrapped {c : Config} {e : Env} {S : Word} {X : ExcSet} {hd hf : Bool} (u : Word)
    (hpossible : fpCausePossible c e (.trapped X hd hf) = true)
    (hduty : S &&& mFlags &&& wMask c = 0x00000000#32 ∨ c.flagOverwrite = true) :
    causeOfRead c (readFPEXC c (recordTrapped c X S) u) = .trapped X := by
  have hlive := dexRes0_of_possible hpossible
  have hdex := (readDex_live c (recordTrapped c X S) u hlive).trans (recordTrapped_dex c X S)
  have htfv := readTfv_of_trapped c (recordTrapped c X S) u (trapAny_of_possible hpossible) (recordTrapped_dex c X S)
    (recordTrapped_tfv c X S)
  refine causeOfRead_eq_trapped_iff.2 ⟨hlive, hdex, htfv, flagsOf_eq fun n inX hexc => ?_⟩
  obtain ⟨impl, hflag, himplemented⟩ := implemented_of_possible hpossible hexc
  obtain ⟨hunimplemented, hread⟩ := flagBitsReadAndWriteByValidity c (recordTrapped c X S) u S n impl hflag
  cases impl with
  | false =>
    have hout : inX = false := Bool.eq_false_iff.2 fun hin => Bool.false_ne_true (himplemented hin)
    rw [(hunimplemented rfl).1, hout]
  | true =>
    have hleft : (S.getLsbD n && !c.flagOverwrite) = false := by
      rcases hduty with hclear | hoverwrite
      · rw [flag_clear_of_duty hclear hflag, Bool.false_and]
      · rw [hoverwrite, Bool.not_true, Bool.and_false]
    rw [(hread rfl).2, hdex, htfv, recordTrapped_flag c S hexc, hleft]
    rfl

/-- Settles O38: by the rows of R77, with DEX and TFV as the record leaves them or as the configuration fixes them. -/
theorem handlerDecodesTheRecordedCause : Obligations.HandlerDecodesTheRecordedCause := by
  intro c e S u
  refine ⟨fun X hd hf hpossible hduty => ?_, fun b hpossible => ?_, fun hdex => ?_,
    fun hres0 => causeOfRead_eq_unallocated_iff.2 (.inl hres0), fun hkind hcause => ?_, fun hkind X hcause => ?_⟩
  · exact causeOfRead_recordTrapped u hpossible hduty
  · have hlive := dexRes0_of_possible hpossible
    obtain ⟨-, hraz, -⟩ := (fpCausePossible_shortVector_iff c e b).1 hpossible
    have hdex := recordShortVector_dex S
    exact causeOfRead_eq_shortVector_iff.2 ⟨hlive, (readDex_live c _ u hlive).trans hdex,
      readTfv_of_shortVector c _ u hraz hdex (recordShortVector_tfv S)⟩
  · refine causeOfRead_eq_unallocated_iff.2 ?_
    cases hres0 : dexRes0 c
    · rw [readDex_live c _ u hres0, recordUnallocated_bit c S 29 (by omega), hdex]
      exact .inr rfl
    · exact .inl rfl
  · obtain ⟨-, -, htfv⟩ := causeOfRead_eq_shortVector_iff.1 hcause
    rw [readTfv_bit, readTfv, hkind] at htfv
    cases htfv
  · obtain ⟨-, -, htfv, -⟩ := causeOfRead_eq_trapped_iff.1 hcause
    rw [readTfv_bit, readTfv, hkind] at htfv
    cases htfv

theorem handlerDuty_iff (s : State) : handlerDuty s = true ↔
    s.fpexc.getLsbD 29 = false ∧ s.fpexc &&& mFlags &&& wMask s.cfg = 0x00000000#32 := by
  rw [handlerDuty, Bool.and_eq_true, Bool.not_eq_true', beq_iff_eq]

/-- Settles O39: where DEX is live WMASK holds it, and the merge takes from `v` what the duty asks about. -/
theorem clearingWriteMeetsTheHandlerDuty : Obligations.ClearingWriteMeetsTheHandlerDuty := by
  intro i s s' v hwrite hcond haccess hlive hv hdex hflags hexec
  obtain rfl := exec_write_completed i s s' v hwrite hcond haccess hv hexec
  refine ⟨(handlerDuty_iff _).2 ?_, writeTransfer_en v s⟩
  rw [writeTransfer_fpexc, writeTransfer_cfg]
  constructor
  · rw [writeFPEXC_bit, wMask_dex, hlive]
    exact hdex
  · have hclear : v &&& mFlags = 0x00000000#32 := hflags
    obtain ⟨-, hinside, -⟩ := writeMergeLaws s.cfg s.fpexc v v
    calc writeFPEXC s.cfg s.fpexc v &&& mFlags &&& wMask s.cfg
        = writeFPEXC s.cfg s.fpexc v &&& wMask s.cfg &&& mFlags := by ac_rfl
      _ = v &&& wMask s.cfg &&& mFlags := by rw [hinside]
      _ = v &&& mFlags &&& wMask s.cfg := by ac_rfl
      _ = 0x00000000#32 := by rw [hclear, BitVec.zero_and]

end Sys2Proof.Machine
end

section
/-! SUPPORT. An instruction's turn (R91 a): it is `exec` of what the program text at `pc` decodes to, and is never stuck. -/

namespace Sys2Proof.Machine

/-- The converse of `fetch_ok`. -/
theorem fetch_of_decode {s : State} {w : Word} {i : Instr} (hprog : progRead s.program s.pc.toNat = some w)
    (hdecode : decode s.env.iset w = .ok i) : fetch s = .ok i := by
  rw [fetch, hprog]
  simp only [hdecode]

/-- While the run goes on, the instruction that is fetched is the one that runs. -/
theorem runInstruction_of_fetch {s : State} {i : Instr} (houtcome : s.outcome = none) (hfetch : fetch s = .ok i) :
    runInstruction s = exec i s := by
  rw [runInstruction, whileRunning_of_running _ houtcome, hfetch]

/-- Settles O6: a turn's `ConditionPassed` and the queue have no part in the fetch. -/
theorem stepRunsTheDecodedInstruction : Obligations.StepRunsTheDecodedInstruction := by
  intro s w i houtcome hprog hdecode
  refine ⟨fun hnone => ?_, fun passed rest hinputs => ?_⟩
  · rw [step_no_input s hnone]
    exact runInstruction_of_fetch houtcome (fetch_of_decode hprog hdecode)
  · rw [step_input s _ rest hinputs]
    exact runInstruction_of_fetch houtcome (fetch_of_decode hprog hdecode)

theorem decodeTableWord_eq_some_iff {nbits w : Nat} {i : Instr} : decodeTableWord nbits w = some i ↔
    decode (tableIset (tableWord nbits w)) (tableWord nbits w) = .ok i := by
  unfold decodeTableWord
  cases decode (tableIset (tableWord nbits w)) (tableWord nbits w) <;> simp

/-- Settles O8: the placed word is what the program text then holds at `pc`, read in the instruction set the table gives it. -/
theorem placedWordIsTheNextInstruction : Obligations.PlacedWordIsTheNextInstruction := by
  intro s nbits w i htable
  have hprog : progRead (s.withFetchWord nbits w).program (s.withFetchWord nbits w).pc.toNat = some (tableWord nbits w) :=
    progRead_progWrite_same s.program s.pc.toNat (tableWord nbits w)
  obtain ⟨hunqueued, -⟩ :=
    stepRunsTheDecodedInstruction (s.withFetchWord nbits w) _ i rfl hprog (decodeTableWord_eq_some_iff.1 htable)
  exact hunqueued rfl

/-- Settles O9: a well-formed instruction's register exists, and then each direction answers a next state. -/
theorem admittedInstructionsAreNeverStuck : Obligations.AdmittedInstructionsAreNeverStuck := by
  intro i s hw
  cases hread : i.isRead
  · obtain ⟨v, hv⟩ := reg_of_wf i s hw
    exact ⟨_, exec_write i s v hw hread hv⟩
  · exact ⟨_, exec_read i s hw hread⟩

end Sys2Proof.Machine
end

section
/-! SUPPORT. A Warm reset closes the gate of EN (R85, R60), and a synchronised enabling VMSR opens it (R87, R61). -/

namespace Sys2Proof.Machine

theorem not_mEN : ~~~mEN = 0xBFFFFFFF#32 := by decide

/-- Settles O47: the turn of a Warm reset, with the mask of EN written out. -/
theorem warmResetDrawsAllButEn : Obligations.WarmResetDrawsAllButEn := by
  intro s x pc e rest hinputs
  rw [step_input s _ rest hinputs, ← not_mEN]
  rfl

/-- One step at the front of a run. -/
theorem run_of_step {s s1 : State} (k : Nat) (h : step s = .next s1) :
    Sys2Proof.core.run (k + 1) s = Sys2Proof.core.run k s1 := by
  simp only [Sys2Proof.core, Host.Core.run, h]

/-- Settles O45: a Warm reset leaves EN at 0 with nothing unsynchronised, and outside EL0 the Effective value is that bit. -/
theorem warmResetClosesTheGate : Obligations.WarmResetClosesTheGate := by
  intro s x pc e rest hinputs hel
  have hreset := warmResetDrawsAllButEn s x pc e _ hinputs
  obtain ⟨-, -, hclears⟩ := enReadsWritesAndResetsToZero
  have hclear := hclears s _ x pc e _ hinputs hreset
  refine ⟨_, (run_of_step 1 hreset).trans (run_of_step 0 (step_gatedAccess _ _ rest rfl rfl)), if_pos ⟨rfl, ?_⟩,
    hclear, rfl, rfl, rfl⟩
  rw [enSeen_synchronised _ rfl]
  exact (effectiveEN_of_not_el0 _ _ hel).trans hclear

/-- Where the bit of EN is 1, so is its Effective value at every level (R64 to R66). -/
theorem effectiveEN_true (c : Config) (e : Env) : effectiveEN c e true = true := by
  unfold effectiveEN
  cases c.enEl0TgeRw0 <;> simp

/-- Settles O46: after the synchronisation a gated access sees the EN that the VMSR wrote, whatever `E` is then. -/
theorem enablingWriteOpensTheGate : Obligations.EnablingWriteOpensTheGate := by
  intro i s s1 v e l hwrite hcond haccess hv hset houtcome hexec
  obtain rfl := exec_write_completed i s s1 v hwrite hcond haccess hv hexec
  have hen : (writeTransfer v s).fpexc.getLsbD 30 = true := (writeTransfer_en v s).trans hset
  have hrunning : (writeTransfer v s).outcome = none := (writeTransfer_outcome v s).trans houtcome
  have hsync := step_input { writeTransfer v s with inputs := [.synchronise, .environment e, .gatedAccess l] } _ _ rfl
  have henv := step_input { writeTransfer v s with enOld := none, inputs := [.environment e, .gatedAccess l] } _ _ rfl
  have hgate :=
    step_gatedAccess { writeTransfer v s with env := e, enOld := none, inputs := [.gatedAccess l] } l [] rfl hrunning
  refine ⟨_, (run_of_step 2 hsync).trans ((run_of_step 1 henv).trans (run_of_step 0 hgate)), rfl, if_neg ?_, hen⟩
  rw [enSeen_synchronised _ rfl, hen, effectiveEN_true]
  exact fun hclosed => Bool.noConfusion hclosed.2

end Sys2Proof.Machine
end
